-- ==== Sys2Proof/Word.lean ====
section
/-! DEFINITION. The word type of the engine (10_state.md R20) and the index of a general register (10_state.md R24). -/

namespace Sys2Proof

/-- A Word: a 16-bit unsigned integer, the one type of memory cells, register contents and raw instructions
(10_state.md R20). -/
abbrev Word := BitVec 16

/-- The index of a general register, 0 to 7 (10_state.md R24): no other index can be formed (92_eei_decisions.md D17). -/
abbrev RegIdx := Fin 8

/-- 2^16: arithmetic is on integers and reduced `mod 65536` at the end (00_scope.md R11). -/
abbrev wordModulus : Nat := 65536

end Sys2Proof
end

