-- ==== Sys2Proof/Syntax.lean ====
section
/-! DEFINITION. The syntax of the instruction set: the two decoded formats (30_encoding.md R63 to R65) and the instructions,
one constructor for each row of spec/opcode_table.json. -/

namespace Sys2Proof

/-- The record of FormatR (30_encoding.md R63). -/
structure FormatR where
  opcode : BitVec 6
  rd : RegIdx
  rs1 : RegIdx
  rs2 : RegIdx
deriving DecidableEq, Repr

/-- The record of FormatI (30_encoding.md R64). The immediate is the field as BitField gives it: zero-extended to a Word
(30_encoding.md R61, R67), so that only 0 to 1023 can be encoded. DESIGN CHOICE (notes/assumptions/5.md). -/
structure FormatI where
  opcode : BitVec 2
  reg : RegIdx
  immediate : Word
deriving DecidableEq, Repr

/-- What the Decoder makes of a word (30_encoding.md R65): one of the two formats. -/
inductive Decoded where
  | R (f : FormatR)
  | I (f : FormatI)
deriving DecidableEq, Repr

/-- The instructions: one constructor for each row of spec/opcode_table.json, in its order. A constructor carries EVERY
field of its format, those the instruction ignores too (30_encoding.md R69), so that no bit of a word is lost (R66). -/
inductive Instr where
  /-- `add`, 41_alu.md R101. -/
  | add (rd rs1 rs2 : RegIdx)
  /-- `sub`, 41_alu.md R102. -/
  | sub (rd rs1 rs2 : RegIdx)
  /-- `mul`, 41_alu.md R103. -/
  | mul (rd rs1 rs2 : RegIdx)
  /-- `div`, 41_alu.md R104. -/
  | div (rd rs1 rs2 : RegIdx)
  /-- `cmp_equal`, 41_alu.md R105. -/
  | cmpEqual (rd rs1 rs2 : RegIdx)
  /-- `cmp_neq`, 41_alu.md R106. -/
  | cmpNeq (rd rs1 rs2 : RegIdx)
  /-- `load`, 42_loadstore.md R121; rs2 is ignored. -/
  | load (rd rs1 rs2 : RegIdx)
  /-- `store`, 42_loadstore.md R122; rd is ignored. -/
  | store (rd rs1 rs2 : RegIdx)
  /-- `syscall`, 43_syscall.md R130; every field is ignored. -/
  | syscall (rd rs1 rs2 : RegIdx)
  /-- `jump`, 44_jump.md R140; reg is ignored. -/
  | jump (reg : RegIdx) (imm : Word)
  /-- `jump_cond`, 44_jump.md R141. -/
  | jumpCond (reg : RegIdx) (imm : Word)
  /-- `mov`, 45_mov.md R150. -/
  | mov (reg : RegIdx) (imm : Word)
  /-- `unassigned_r6`, 46_unrecognized.md R160; every field is ignored. -/
  | unassignedR6 (rd rs1 rs2 : RegIdx)
  /-- `unassigned_r7`, 46_unrecognized.md R160; every field is ignored. -/
  | unassignedR7 (rd rs1 rs2 : RegIdx)
  /-- `unassigned_r8`, 46_unrecognized.md R160; every field is ignored. -/
  | unassignedR8 (rd rs1 rs2 : RegIdx)
  /-- `unassigned_r9`, 46_unrecognized.md R160; every field is ignored. -/
  | unassignedR9 (rd rs1 rs2 : RegIdx)
  /-- `unassigned_r10`, 46_unrecognized.md R160; every field is ignored. -/
  | unassignedR10 (rd rs1 rs2 : RegIdx)
  /-- `unassigned_r11`, 46_unrecognized.md R160; every field is ignored. -/
  | unassignedR11 (rd rs1 rs2 : RegIdx)
  /-- `unassigned_r12`, 46_unrecognized.md R160; every field is ignored. -/
  | unassignedR12 (rd rs1 rs2 : RegIdx)
  /-- `unassigned_r13`, 46_unrecognized.md R160; every field is ignored. -/
  | unassignedR13 (rd rs1 rs2 : RegIdx)
  /-- `unassigned_r14`, 46_unrecognized.md R160; every field is ignored. -/
  | unassignedR14 (rd rs1 rs2 : RegIdx)
  /-- `unassigned_r17`, 46_unrecognized.md R160; every field is ignored. -/
  | unassignedR17 (rd rs1 rs2 : RegIdx)
  /-- `unassigned_r18`, 46_unrecognized.md R160; every field is ignored. -/
  | unassignedR18 (rd rs1 rs2 : RegIdx)
  /-- `unassigned_r19`, 46_unrecognized.md R160; every field is ignored. -/
  | unassignedR19 (rd rs1 rs2 : RegIdx)
  /-- `unassigned_r20`, 46_unrecognized.md R160; every field is ignored. -/
  | unassignedR20 (rd rs1 rs2 : RegIdx)
  /-- `unassigned_r21`, 46_unrecognized.md R160; every field is ignored. -/
  | unassignedR21 (rd rs1 rs2 : RegIdx)
  /-- `unassigned_r22`, 46_unrecognized.md R160; every field is ignored. -/
  | unassignedR22 (rd rs1 rs2 : RegIdx)
  /-- `unassigned_r23`, 46_unrecognized.md R160; every field is ignored. -/
  | unassignedR23 (rd rs1 rs2 : RegIdx)
  /-- `unassigned_r24`, 46_unrecognized.md R160; every field is ignored. -/
  | unassignedR24 (rd rs1 rs2 : RegIdx)
  /-- `unassigned_r25`, 46_unrecognized.md R160; every field is ignored. -/
  | unassignedR25 (rd rs1 rs2 : RegIdx)
  /-- `unassigned_r26`, 46_unrecognized.md R160; every field is ignored. -/
  | unassignedR26 (rd rs1 rs2 : RegIdx)
  /-- `unassigned_r27`, 46_unrecognized.md R160; every field is ignored. -/
  | unassignedR27 (rd rs1 rs2 : RegIdx)
  /-- `unassigned_r28`, 46_unrecognized.md R160; every field is ignored. -/
  | unassignedR28 (rd rs1 rs2 : RegIdx)
  /-- `unassigned_r29`, 46_unrecognized.md R160; every field is ignored. -/
  | unassignedR29 (rd rs1 rs2 : RegIdx)
  /-- `unassigned_r30`, 46_unrecognized.md R160; every field is ignored. -/
  | unassignedR30 (rd rs1 rs2 : RegIdx)
  /-- `unassigned_r31`, 46_unrecognized.md R160; every field is ignored. -/
  | unassignedR31 (rd rs1 rs2 : RegIdx)
  /-- `unassigned_r32`, 46_unrecognized.md R160; every field is ignored. -/
  | unassignedR32 (rd rs1 rs2 : RegIdx)
  /-- `unassigned_r33`, 46_unrecognized.md R160; every field is ignored. -/
  | unassignedR33 (rd rs1 rs2 : RegIdx)
  /-- `unassigned_r34`, 46_unrecognized.md R160; every field is ignored. -/
  | unassignedR34 (rd rs1 rs2 : RegIdx)
  /-- `unassigned_r35`, 46_unrecognized.md R160; every field is ignored. -/
  | unassignedR35 (rd rs1 rs2 : RegIdx)
  /-- `unassigned_r36`, 46_unrecognized.md R160; every field is ignored. -/
  | unassignedR36 (rd rs1 rs2 : RegIdx)
  /-- `unassigned_r37`, 46_unrecognized.md R160; every field is ignored. -/
  | unassignedR37 (rd rs1 rs2 : RegIdx)
  /-- `unassigned_r38`, 46_unrecognized.md R160; every field is ignored. -/
  | unassignedR38 (rd rs1 rs2 : RegIdx)
  /-- `unassigned_r39`, 46_unrecognized.md R160; every field is ignored. -/
  | unassignedR39 (rd rs1 rs2 : RegIdx)
  /-- `unassigned_r40`, 46_unrecognized.md R160; every field is ignored. -/
  | unassignedR40 (rd rs1 rs2 : RegIdx)
  /-- `unassigned_r41`, 46_unrecognized.md R160; every field is ignored. -/
  | unassignedR41 (rd rs1 rs2 : RegIdx)
  /-- `unassigned_r42`, 46_unrecognized.md R160; every field is ignored. -/
  | unassignedR42 (rd rs1 rs2 : RegIdx)
  /-- `unassigned_r43`, 46_unrecognized.md R160; every field is ignored. -/
  | unassignedR43 (rd rs1 rs2 : RegIdx)
  /-- `unassigned_r44`, 46_unrecognized.md R160; every field is ignored. -/
  | unassignedR44 (rd rs1 rs2 : RegIdx)
  /-- `unassigned_r45`, 46_unrecognized.md R160; every field is ignored. -/
  | unassignedR45 (rd rs1 rs2 : RegIdx)
  /-- `unassigned_r46`, 46_unrecognized.md R160; every field is ignored. -/
  | unassignedR46 (rd rs1 rs2 : RegIdx)
  /-- `unassigned_r47`, 46_unrecognized.md R160; every field is ignored. -/
  | unassignedR47 (rd rs1 rs2 : RegIdx)
  /-- `unassigned_r48`, 46_unrecognized.md R160; every field is ignored. -/
  | unassignedR48 (rd rs1 rs2 : RegIdx)
  /-- `unassigned_r49`, 46_unrecognized.md R160; every field is ignored. -/
  | unassignedR49 (rd rs1 rs2 : RegIdx)
  /-- `unassigned_r50`, 46_unrecognized.md R160; every field is ignored. -/
  | unassignedR50 (rd rs1 rs2 : RegIdx)
  /-- `unassigned_r51`, 46_unrecognized.md R160; every field is ignored. -/
  | unassignedR51 (rd rs1 rs2 : RegIdx)
  /-- `unassigned_r52`, 46_unrecognized.md R160; every field is ignored. -/
  | unassignedR52 (rd rs1 rs2 : RegIdx)
  /-- `unassigned_r53`, 46_unrecognized.md R160; every field is ignored. -/
  | unassignedR53 (rd rs1 rs2 : RegIdx)
  /-- `unassigned_r54`, 46_unrecognized.md R160; every field is ignored. -/
  | unassignedR54 (rd rs1 rs2 : RegIdx)
  /-- `unassigned_r55`, 46_unrecognized.md R160; every field is ignored. -/
  | unassignedR55 (rd rs1 rs2 : RegIdx)
  /-- `unassigned_r56`, 46_unrecognized.md R160; every field is ignored. -/
  | unassignedR56 (rd rs1 rs2 : RegIdx)
  /-- `unassigned_r57`, 46_unrecognized.md R160; every field is ignored. -/
  | unassignedR57 (rd rs1 rs2 : RegIdx)
  /-- `unassigned_r58`, 46_unrecognized.md R160; every field is ignored. -/
  | unassignedR58 (rd rs1 rs2 : RegIdx)
  /-- `unassigned_r59`, 46_unrecognized.md R160; every field is ignored. -/
  | unassignedR59 (rd rs1 rs2 : RegIdx)
  /-- `unassigned_r60`, 46_unrecognized.md R160; every field is ignored. -/
  | unassignedR60 (rd rs1 rs2 : RegIdx)
  /-- `unassigned_r61`, 46_unrecognized.md R160; every field is ignored. -/
  | unassignedR61 (rd rs1 rs2 : RegIdx)
  /-- `unassigned_r62`, 46_unrecognized.md R160; every field is ignored. -/
  | unassignedR62 (rd rs1 rs2 : RegIdx)
  /-- `unassigned_i2`, 46_unrecognized.md R161; every field is ignored. -/
  | unassignedI2 (reg : RegIdx) (imm : Word)
deriving DecidableEq, Repr

end Sys2Proof
end

