-- ==== Sys2Proof/WellFormed.lean ====
section
/-! DEFINITION. Which instructions an encoding exists for: a register index is one by its type (10_state.md R24), so the one
check is the immediate's range, 0 to 1023 (30_encoding.md R67). -/

namespace Sys2Proof

/-- The immediate fits its 10-bit field (30_encoding.md R67): 0 to 1023. A target such as 40000 cannot be encoded
(90_conflicts.md C1). -/
def immediateFits (imm : Word) : Bool := decide (imm.toNat < 1024)

/-- An instruction that some word encodes. -/
def Instr.wellFormed : Instr → Bool
  | .add _ _ _ => true
  | .sub _ _ _ => true
  | .mul _ _ _ => true
  | .div _ _ _ => true
  | .cmpEqual _ _ _ => true
  | .cmpNeq _ _ _ => true
  | .load _ _ _ => true
  | .store _ _ _ => true
  | .syscall _ _ _ => true
  | .jump _ imm => immediateFits imm
  | .jumpCond _ imm => immediateFits imm
  | .mov _ imm => immediateFits imm
  | .unassignedR6 _ _ _ => true
  | .unassignedR7 _ _ _ => true
  | .unassignedR8 _ _ _ => true
  | .unassignedR9 _ _ _ => true
  | .unassignedR10 _ _ _ => true
  | .unassignedR11 _ _ _ => true
  | .unassignedR12 _ _ _ => true
  | .unassignedR13 _ _ _ => true
  | .unassignedR14 _ _ _ => true
  | .unassignedR17 _ _ _ => true
  | .unassignedR18 _ _ _ => true
  | .unassignedR19 _ _ _ => true
  | .unassignedR20 _ _ _ => true
  | .unassignedR21 _ _ _ => true
  | .unassignedR22 _ _ _ => true
  | .unassignedR23 _ _ _ => true
  | .unassignedR24 _ _ _ => true
  | .unassignedR25 _ _ _ => true
  | .unassignedR26 _ _ _ => true
  | .unassignedR27 _ _ _ => true
  | .unassignedR28 _ _ _ => true
  | .unassignedR29 _ _ _ => true
  | .unassignedR30 _ _ _ => true
  | .unassignedR31 _ _ _ => true
  | .unassignedR32 _ _ _ => true
  | .unassignedR33 _ _ _ => true
  | .unassignedR34 _ _ _ => true
  | .unassignedR35 _ _ _ => true
  | .unassignedR36 _ _ _ => true
  | .unassignedR37 _ _ _ => true
  | .unassignedR38 _ _ _ => true
  | .unassignedR39 _ _ _ => true
  | .unassignedR40 _ _ _ => true
  | .unassignedR41 _ _ _ => true
  | .unassignedR42 _ _ _ => true
  | .unassignedR43 _ _ _ => true
  | .unassignedR44 _ _ _ => true
  | .unassignedR45 _ _ _ => true
  | .unassignedR46 _ _ _ => true
  | .unassignedR47 _ _ _ => true
  | .unassignedR48 _ _ _ => true
  | .unassignedR49 _ _ _ => true
  | .unassignedR50 _ _ _ => true
  | .unassignedR51 _ _ _ => true
  | .unassignedR52 _ _ _ => true
  | .unassignedR53 _ _ _ => true
  | .unassignedR54 _ _ _ => true
  | .unassignedR55 _ _ _ => true
  | .unassignedR56 _ _ _ => true
  | .unassignedR57 _ _ _ => true
  | .unassignedR58 _ _ _ => true
  | .unassignedR59 _ _ _ => true
  | .unassignedR60 _ _ _ => true
  | .unassignedR61 _ _ _ => true
  | .unassignedR62 _ _ _ => true
  | .unassignedI2 _ imm => immediateFits imm

/-- A decoded record that some word decodes to. -/
def Decoded.wellFormed : Decoded → Bool
  | .R _ => true
  | .I f => immediateFits f.immediate

end Sys2Proof
end

