-- ==== Sys2Proof/Decode.lean ====
section
/-! DEFINITION. BitField, the Decoder and the encoder (30_encoding.md). Decoding is total and refuses nothing: every one of
the 65536 words is an instruction (R65, R72). -/

namespace Sys2Proof

/-! ### BitField (30_encoding.md R61) -/

/-- The mask of a field of `length` bits, the length clamped to the word's width (R61). -/
def fieldMask (length : Nat) : Word :=
  if 16 ≤ length then 0xFFFF#16 else BitVec.ofNat 16 (2 ^ length - 1)

/-- `extract(value, start, length)` of R61: a logical shift and a mask, the result an unsigned field zero-extended to a
Word. A start of 16 or more, for which the source states no value, cannot be written (93_implementation_defined.md row 2:
`refuse`). DESIGN CHOICE (notes/assumptions/9.md). -/
def extract (value : Word) (start : Fin 16) (length : Nat) : Word :=
  if length = 0 then 0#16 else (value >>> start.val) &&& fieldMask length

/-- A 3-bit field as a register index (R68: the value 0..7 names R0..R7 directly). -/
def registerField (w : Word) (start : Fin 16) : RegIdx := Fin.ofNat 8 (extract w start 3).toNat

/-! ### The Decoder -/

/-- The fields of a FormatR word (R63). -/
def decodeFormatR (w : Word) : FormatR :=
  { opcode := BitVec.ofNat 6 (extract w 9 6).toNat
    rd := registerField w 6
    rs1 := registerField w 3
    rs2 := registerField w 0 }

/-- The fields of a FormatI word (R64, R67). -/
def decodeFormatI (w : Word) : FormatI :=
  { opcode := BitVec.ofNat 2 (extract w 13 2).toNat
    reg := registerField w 10
    immediate := extract w 0 10 }

/-- The two-format classifier: bit 15 alone selects the format (R62). -/
def classify (w : Word) : Decoded :=
  if extract w 15 1 = 0#16 then .R (decodeFormatR w) else .I (decodeFormatI w)

/-- The FormatR opcode map (R70). The last arm is opcode 63, the one value of six bits left. -/
def FormatR.toInstr (f : FormatR) : Instr :=
  match f.opcode.toNat with
  | 0 => .add f.rd f.rs1 f.rs2
  | 1 => .sub f.rd f.rs1 f.rs2
  | 2 => .mul f.rd f.rs1 f.rs2
  | 3 => .div f.rd f.rs1 f.rs2
  | 4 => .cmpEqual f.rd f.rs1 f.rs2
  | 5 => .cmpNeq f.rd f.rs1 f.rs2
  | 6 => .unassignedR6 f.rd f.rs1 f.rs2
  | 7 => .unassignedR7 f.rd f.rs1 f.rs2
  | 8 => .unassignedR8 f.rd f.rs1 f.rs2
  | 9 => .unassignedR9 f.rd f.rs1 f.rs2
  | 10 => .unassignedR10 f.rd f.rs1 f.rs2
  | 11 => .unassignedR11 f.rd f.rs1 f.rs2
  | 12 => .unassignedR12 f.rd f.rs1 f.rs2
  | 13 => .unassignedR13 f.rd f.rs1 f.rs2
  | 14 => .unassignedR14 f.rd f.rs1 f.rs2
  | 15 => .load f.rd f.rs1 f.rs2
  | 16 => .store f.rd f.rs1 f.rs2
  | 17 => .unassignedR17 f.rd f.rs1 f.rs2
  | 18 => .unassignedR18 f.rd f.rs1 f.rs2
  | 19 => .unassignedR19 f.rd f.rs1 f.rs2
  | 20 => .unassignedR20 f.rd f.rs1 f.rs2
  | 21 => .unassignedR21 f.rd f.rs1 f.rs2
  | 22 => .unassignedR22 f.rd f.rs1 f.rs2
  | 23 => .unassignedR23 f.rd f.rs1 f.rs2
  | 24 => .unassignedR24 f.rd f.rs1 f.rs2
  | 25 => .unassignedR25 f.rd f.rs1 f.rs2
  | 26 => .unassignedR26 f.rd f.rs1 f.rs2
  | 27 => .unassignedR27 f.rd f.rs1 f.rs2
  | 28 => .unassignedR28 f.rd f.rs1 f.rs2
  | 29 => .unassignedR29 f.rd f.rs1 f.rs2
  | 30 => .unassignedR30 f.rd f.rs1 f.rs2
  | 31 => .unassignedR31 f.rd f.rs1 f.rs2
  | 32 => .unassignedR32 f.rd f.rs1 f.rs2
  | 33 => .unassignedR33 f.rd f.rs1 f.rs2
  | 34 => .unassignedR34 f.rd f.rs1 f.rs2
  | 35 => .unassignedR35 f.rd f.rs1 f.rs2
  | 36 => .unassignedR36 f.rd f.rs1 f.rs2
  | 37 => .unassignedR37 f.rd f.rs1 f.rs2
  | 38 => .unassignedR38 f.rd f.rs1 f.rs2
  | 39 => .unassignedR39 f.rd f.rs1 f.rs2
  | 40 => .unassignedR40 f.rd f.rs1 f.rs2
  | 41 => .unassignedR41 f.rd f.rs1 f.rs2
  | 42 => .unassignedR42 f.rd f.rs1 f.rs2
  | 43 => .unassignedR43 f.rd f.rs1 f.rs2
  | 44 => .unassignedR44 f.rd f.rs1 f.rs2
  | 45 => .unassignedR45 f.rd f.rs1 f.rs2
  | 46 => .unassignedR46 f.rd f.rs1 f.rs2
  | 47 => .unassignedR47 f.rd f.rs1 f.rs2
  | 48 => .unassignedR48 f.rd f.rs1 f.rs2
  | 49 => .unassignedR49 f.rd f.rs1 f.rs2
  | 50 => .unassignedR50 f.rd f.rs1 f.rs2
  | 51 => .unassignedR51 f.rd f.rs1 f.rs2
  | 52 => .unassignedR52 f.rd f.rs1 f.rs2
  | 53 => .unassignedR53 f.rd f.rs1 f.rs2
  | 54 => .unassignedR54 f.rd f.rs1 f.rs2
  | 55 => .unassignedR55 f.rd f.rs1 f.rs2
  | 56 => .unassignedR56 f.rd f.rs1 f.rs2
  | 57 => .unassignedR57 f.rd f.rs1 f.rs2
  | 58 => .unassignedR58 f.rd f.rs1 f.rs2
  | 59 => .unassignedR59 f.rd f.rs1 f.rs2
  | 60 => .unassignedR60 f.rd f.rs1 f.rs2
  | 61 => .unassignedR61 f.rd f.rs1 f.rs2
  | 62 => .unassignedR62 f.rd f.rs1 f.rs2
  | _ => .syscall f.rd f.rs1 f.rs2

/-- The FormatI opcode map (R71). The last arm is opcode 3, the one value of two bits left. -/
def FormatI.toInstr (f : FormatI) : Instr :=
  match f.opcode.toNat with
  | 0 => .jump f.reg f.immediate
  | 1 => .jumpCond f.reg f.immediate
  | 2 => .unassignedI2 f.reg f.immediate
  | _ => .mov f.reg f.immediate

/-- Which instruction a decoded record is (R70, R71; the selection of 40_engine_cycle.md R85). -/
def Decoded.toInstr : Decoded → Instr
  | .R f => f.toInstr
  | .I f => f.toInstr

/-- Decoding a word: it never fails (R65). -/
def decode (w : Word) : Instr := (classify w).toInstr

/-! ### The encoder (30_encoding.md R66) -/

/-- `encodeR(opcode, rd, rs1, rs2)` of R66; bit 15 is 0. -/
def encodeR (opcode : BitVec 6) (rd rs1 rs2 : RegIdx) : Word :=
  (opcode.setWidth 16 <<< 9) ||| (BitVec.ofNat 16 rd.val <<< 6) ||| (BitVec.ofNat 16 rs1.val <<< 3) |||
    BitVec.ofNat 16 rs2.val

/-- `encodeI(opcode, reg, imm)` of R66; bit 15 is 1. Only the low 10 bits of an immediate have a place in the word. -/
def encodeI (opcode : BitVec 2) (reg : RegIdx) (imm : Word) : Word :=
  0x8000#16 ||| (opcode.setWidth 16 <<< 13) ||| (BitVec.ofNat 16 reg.val <<< 10) ||| (imm &&& 0x03FF#16)

/-- Putting the fields back into a word (R66). -/
def Decoded.encode : Decoded → Word
  | .R f => encodeR f.opcode f.rd f.rs1 f.rs2
  | .I f => encodeI f.opcode f.reg f.immediate

/-- The word of an instruction, by the opcode map (R70, R71). -/
def encode : Instr → Word
  | .add rd rs1 rs2 => encodeR 0 rd rs1 rs2
  | .sub rd rs1 rs2 => encodeR 1 rd rs1 rs2
  | .mul rd rs1 rs2 => encodeR 2 rd rs1 rs2
  | .div rd rs1 rs2 => encodeR 3 rd rs1 rs2
  | .cmpEqual rd rs1 rs2 => encodeR 4 rd rs1 rs2
  | .cmpNeq rd rs1 rs2 => encodeR 5 rd rs1 rs2
  | .load rd rs1 rs2 => encodeR 15 rd rs1 rs2
  | .store rd rs1 rs2 => encodeR 16 rd rs1 rs2
  | .syscall rd rs1 rs2 => encodeR 63 rd rs1 rs2
  | .jump reg imm => encodeI 0 reg imm
  | .jumpCond reg imm => encodeI 1 reg imm
  | .mov reg imm => encodeI 3 reg imm
  | .unassignedR6 rd rs1 rs2 => encodeR 6 rd rs1 rs2
  | .unassignedR7 rd rs1 rs2 => encodeR 7 rd rs1 rs2
  | .unassignedR8 rd rs1 rs2 => encodeR 8 rd rs1 rs2
  | .unassignedR9 rd rs1 rs2 => encodeR 9 rd rs1 rs2
  | .unassignedR10 rd rs1 rs2 => encodeR 10 rd rs1 rs2
  | .unassignedR11 rd rs1 rs2 => encodeR 11 rd rs1 rs2
  | .unassignedR12 rd rs1 rs2 => encodeR 12 rd rs1 rs2
  | .unassignedR13 rd rs1 rs2 => encodeR 13 rd rs1 rs2
  | .unassignedR14 rd rs1 rs2 => encodeR 14 rd rs1 rs2
  | .unassignedR17 rd rs1 rs2 => encodeR 17 rd rs1 rs2
  | .unassignedR18 rd rs1 rs2 => encodeR 18 rd rs1 rs2
  | .unassignedR19 rd rs1 rs2 => encodeR 19 rd rs1 rs2
  | .unassignedR20 rd rs1 rs2 => encodeR 20 rd rs1 rs2
  | .unassignedR21 rd rs1 rs2 => encodeR 21 rd rs1 rs2
  | .unassignedR22 rd rs1 rs2 => encodeR 22 rd rs1 rs2
  | .unassignedR23 rd rs1 rs2 => encodeR 23 rd rs1 rs2
  | .unassignedR24 rd rs1 rs2 => encodeR 24 rd rs1 rs2
  | .unassignedR25 rd rs1 rs2 => encodeR 25 rd rs1 rs2
  | .unassignedR26 rd rs1 rs2 => encodeR 26 rd rs1 rs2
  | .unassignedR27 rd rs1 rs2 => encodeR 27 rd rs1 rs2
  | .unassignedR28 rd rs1 rs2 => encodeR 28 rd rs1 rs2
  | .unassignedR29 rd rs1 rs2 => encodeR 29 rd rs1 rs2
  | .unassignedR30 rd rs1 rs2 => encodeR 30 rd rs1 rs2
  | .unassignedR31 rd rs1 rs2 => encodeR 31 rd rs1 rs2
  | .unassignedR32 rd rs1 rs2 => encodeR 32 rd rs1 rs2
  | .unassignedR33 rd rs1 rs2 => encodeR 33 rd rs1 rs2
  | .unassignedR34 rd rs1 rs2 => encodeR 34 rd rs1 rs2
  | .unassignedR35 rd rs1 rs2 => encodeR 35 rd rs1 rs2
  | .unassignedR36 rd rs1 rs2 => encodeR 36 rd rs1 rs2
  | .unassignedR37 rd rs1 rs2 => encodeR 37 rd rs1 rs2
  | .unassignedR38 rd rs1 rs2 => encodeR 38 rd rs1 rs2
  | .unassignedR39 rd rs1 rs2 => encodeR 39 rd rs1 rs2
  | .unassignedR40 rd rs1 rs2 => encodeR 40 rd rs1 rs2
  | .unassignedR41 rd rs1 rs2 => encodeR 41 rd rs1 rs2
  | .unassignedR42 rd rs1 rs2 => encodeR 42 rd rs1 rs2
  | .unassignedR43 rd rs1 rs2 => encodeR 43 rd rs1 rs2
  | .unassignedR44 rd rs1 rs2 => encodeR 44 rd rs1 rs2
  | .unassignedR45 rd rs1 rs2 => encodeR 45 rd rs1 rs2
  | .unassignedR46 rd rs1 rs2 => encodeR 46 rd rs1 rs2
  | .unassignedR47 rd rs1 rs2 => encodeR 47 rd rs1 rs2
  | .unassignedR48 rd rs1 rs2 => encodeR 48 rd rs1 rs2
  | .unassignedR49 rd rs1 rs2 => encodeR 49 rd rs1 rs2
  | .unassignedR50 rd rs1 rs2 => encodeR 50 rd rs1 rs2
  | .unassignedR51 rd rs1 rs2 => encodeR 51 rd rs1 rs2
  | .unassignedR52 rd rs1 rs2 => encodeR 52 rd rs1 rs2
  | .unassignedR53 rd rs1 rs2 => encodeR 53 rd rs1 rs2
  | .unassignedR54 rd rs1 rs2 => encodeR 54 rd rs1 rs2
  | .unassignedR55 rd rs1 rs2 => encodeR 55 rd rs1 rs2
  | .unassignedR56 rd rs1 rs2 => encodeR 56 rd rs1 rs2
  | .unassignedR57 rd rs1 rs2 => encodeR 57 rd rs1 rs2
  | .unassignedR58 rd rs1 rs2 => encodeR 58 rd rs1 rs2
  | .unassignedR59 rd rs1 rs2 => encodeR 59 rd rs1 rs2
  | .unassignedR60 rd rs1 rs2 => encodeR 60 rd rs1 rs2
  | .unassignedR61 rd rs1 rs2 => encodeR 61 rd rs1 rs2
  | .unassignedR62 rd rs1 rs2 => encodeR 62 rd rs1 rs2
  | .unassignedI2 reg imm => encodeI 2 reg imm

/-! ### The opcode table (R70, R71; spec/opcode_table.json) -/

/-- A row's `match` and `mask`: the value of its fixed bits and which bits are fixed (R70, R71). -/
def Instr.tableBits : Instr → Word × Word
  | .add _ _ _ => (0x0000#16, 0xFE00#16)
  | .sub _ _ _ => (0x0200#16, 0xFE00#16)
  | .mul _ _ _ => (0x0400#16, 0xFE00#16)
  | .div _ _ _ => (0x0600#16, 0xFE00#16)
  | .cmpEqual _ _ _ => (0x0800#16, 0xFE00#16)
  | .cmpNeq _ _ _ => (0x0A00#16, 0xFE00#16)
  | .load _ _ _ => (0x1E00#16, 0xFE00#16)
  | .store _ _ _ => (0x2000#16, 0xFE00#16)
  | .syscall _ _ _ => (0x7E00#16, 0xFE00#16)
  | .jump _ _ => (0x8000#16, 0xE000#16)
  | .jumpCond _ _ => (0xA000#16, 0xE000#16)
  | .mov _ _ => (0xE000#16, 0xE000#16)
  | .unassignedR6 _ _ _ => (0x0C00#16, 0xFE00#16)
  | .unassignedR7 _ _ _ => (0x0E00#16, 0xFE00#16)
  | .unassignedR8 _ _ _ => (0x1000#16, 0xFE00#16)
  | .unassignedR9 _ _ _ => (0x1200#16, 0xFE00#16)
  | .unassignedR10 _ _ _ => (0x1400#16, 0xFE00#16)
  | .unassignedR11 _ _ _ => (0x1600#16, 0xFE00#16)
  | .unassignedR12 _ _ _ => (0x1800#16, 0xFE00#16)
  | .unassignedR13 _ _ _ => (0x1A00#16, 0xFE00#16)
  | .unassignedR14 _ _ _ => (0x1C00#16, 0xFE00#16)
  | .unassignedR17 _ _ _ => (0x2200#16, 0xFE00#16)
  | .unassignedR18 _ _ _ => (0x2400#16, 0xFE00#16)
  | .unassignedR19 _ _ _ => (0x2600#16, 0xFE00#16)
  | .unassignedR20 _ _ _ => (0x2800#16, 0xFE00#16)
  | .unassignedR21 _ _ _ => (0x2A00#16, 0xFE00#16)
  | .unassignedR22 _ _ _ => (0x2C00#16, 0xFE00#16)
  | .unassignedR23 _ _ _ => (0x2E00#16, 0xFE00#16)
  | .unassignedR24 _ _ _ => (0x3000#16, 0xFE00#16)
  | .unassignedR25 _ _ _ => (0x3200#16, 0xFE00#16)
  | .unassignedR26 _ _ _ => (0x3400#16, 0xFE00#16)
  | .unassignedR27 _ _ _ => (0x3600#16, 0xFE00#16)
  | .unassignedR28 _ _ _ => (0x3800#16, 0xFE00#16)
  | .unassignedR29 _ _ _ => (0x3A00#16, 0xFE00#16)
  | .unassignedR30 _ _ _ => (0x3C00#16, 0xFE00#16)
  | .unassignedR31 _ _ _ => (0x3E00#16, 0xFE00#16)
  | .unassignedR32 _ _ _ => (0x4000#16, 0xFE00#16)
  | .unassignedR33 _ _ _ => (0x4200#16, 0xFE00#16)
  | .unassignedR34 _ _ _ => (0x4400#16, 0xFE00#16)
  | .unassignedR35 _ _ _ => (0x4600#16, 0xFE00#16)
  | .unassignedR36 _ _ _ => (0x4800#16, 0xFE00#16)
  | .unassignedR37 _ _ _ => (0x4A00#16, 0xFE00#16)
  | .unassignedR38 _ _ _ => (0x4C00#16, 0xFE00#16)
  | .unassignedR39 _ _ _ => (0x4E00#16, 0xFE00#16)
  | .unassignedR40 _ _ _ => (0x5000#16, 0xFE00#16)
  | .unassignedR41 _ _ _ => (0x5200#16, 0xFE00#16)
  | .unassignedR42 _ _ _ => (0x5400#16, 0xFE00#16)
  | .unassignedR43 _ _ _ => (0x5600#16, 0xFE00#16)
  | .unassignedR44 _ _ _ => (0x5800#16, 0xFE00#16)
  | .unassignedR45 _ _ _ => (0x5A00#16, 0xFE00#16)
  | .unassignedR46 _ _ _ => (0x5C00#16, 0xFE00#16)
  | .unassignedR47 _ _ _ => (0x5E00#16, 0xFE00#16)
  | .unassignedR48 _ _ _ => (0x6000#16, 0xFE00#16)
  | .unassignedR49 _ _ _ => (0x6200#16, 0xFE00#16)
  | .unassignedR50 _ _ _ => (0x6400#16, 0xFE00#16)
  | .unassignedR51 _ _ _ => (0x6600#16, 0xFE00#16)
  | .unassignedR52 _ _ _ => (0x6800#16, 0xFE00#16)
  | .unassignedR53 _ _ _ => (0x6A00#16, 0xFE00#16)
  | .unassignedR54 _ _ _ => (0x6C00#16, 0xFE00#16)
  | .unassignedR55 _ _ _ => (0x6E00#16, 0xFE00#16)
  | .unassignedR56 _ _ _ => (0x7000#16, 0xFE00#16)
  | .unassignedR57 _ _ _ => (0x7200#16, 0xFE00#16)
  | .unassignedR58 _ _ _ => (0x7400#16, 0xFE00#16)
  | .unassignedR59 _ _ _ => (0x7600#16, 0xFE00#16)
  | .unassignedR60 _ _ _ => (0x7800#16, 0xFE00#16)
  | .unassignedR61 _ _ _ => (0x7A00#16, 0xFE00#16)
  | .unassignedR62 _ _ _ => (0x7C00#16, 0xFE00#16)
  | .unassignedI2 _ _ => (0xC000#16, 0xE000#16)

/-! ### The host's name for decoding -/

/-- The instruction word whose low `nbits` bits are those of `w` and whose bits above are 0. The engine's instruction is one
word and has no byte order (20_memory.md R45), so laying it out as the hardware stores it is the word itself. -/
def tableWord (nbits w : Nat) : Word := BitVec.ofNat 16 (w % 2 ^ nbits)

/-- What the decoder reads from the table's word; it refuses nothing (30_encoding.md R65). -/
def decodeTableWord (nbits w : Nat) : Option Instr := some (decode (tableWord nbits w))

end Sys2Proof
end

