-- ==== Sys2Proof/Config.lean ====
section
/-! DEFINITION. What an implementation fixes (00_scope.md R8 and R9): the three numbers a model may take as configuration,
and the two parameters of `syscall` that are no configuration. The spec leaves no value open that an instruction computes,
so there is no free value here. -/

namespace Sys2Proof

/-- The configuration of an engine (00_scope.md R9, 92_eei_decisions.md D15). It is fixed for the machine. -/
structure Config where
  /-- MEMORY_SIZE: how many words the memory has. -/
  memorySize : Nat
  /-- CYCLE_LIMIT: the ceiling of the cycle counter. -/
  cycleLimit : Nat
  /-- RESET_PC: the word index where execution begins. -/
  resetPc : Nat
deriving DecidableEq, Repr

/-- The values the source states (00_scope.md R8). -/
def Config.standard : Config := { memorySize := 32768, cycleLimit := 3000, resetPc := 1 }

/-- The constraints of 00_scope.md R9: 2 <= MEMORY_SIZE <= 32768 and RESET_PC < MEMORY_SIZE (CYCLE_LIMIT >= 0 holds of
every natural number). -/
abbrev Config.Valid (c : Config) : Prop :=
  2 ≤ c.memorySize ∧ c.memorySize ≤ 32768 ∧ c.resetPc < c.memorySize

/-- SYSCALL_SELECTOR: the register that holds the service number (00_scope.md R8, 10_state.md R22). -/
def Config.syscallSelector : RegIdx := 0

/-- HALT_SERVICE: the one service there is (00_scope.md R8, 43_syscall.md R131). -/
def Config.haltService : Word := 0#16

end Sys2Proof
end

