-- ==== Sys2Proof/Machine/State.lean ====
section
/-! DEFINITION. The state of the engine (10_state.md), as plain data, and the state after reset. -/

namespace Sys2Proof.Machine

/-- The five causes of a fault (60_exceptions.md R171). The split into five and the codes are the spec's own choice
(92_eei_decisions.md D2), so claims use these names. -/
inductive FaultCause where
  /-- Code 1: the PC check of a cycle. -/
  | pcOutOfRange
  /-- Code 2: `load`. -/
  | loadOutOfRange
  /-- Code 3: `store`. -/
  | storeOutOfRange
  /-- Code 4: `jump`, or a taken `jump_cond`. -/
  | jumpTargetOutOfRange
  /-- Code 5: the ceiling check. -/
  | resourceExhaustion
deriving DecidableEq, Repr

/-- The reason a faulted run carries (10_state.md R31): the offending index, or the ceiling. -/
structure FaultRecord where
  cause : FaultCause
  value : Nat
deriving DecidableEq, Repr

/-- The run state (10_state.md R30). Halted and Faulted are terminal. -/
inductive RunState where
  | running
  | halted
  | faulted (record : FaultRecord)
deriving DecidableEq, Repr

/-- The kinds of warning (60_exceptions.md R174). -/
inductive WarningKind where
  | unrecognizedOpcodeR
  | unrecognizedOpcodeI
  | unimplementedService
deriving DecidableEq, Repr

/-- An event of the diagnostics log (10_state.md R33): its class and value; the text is not normative (60_exceptions.md
R185). -/
inductive DiagEvent where
  | fault (cause : FaultCause) (value : Nat)
  | warning (kind : WarningKind) (value : Nat)
deriving DecidableEq, Repr

/-- One listed memory cell: a word index and the Word there. The engine's cell is the 16-bit Word, and no access sees a
part of one (20_memory.md R40, R44, R45). DEDUCED: a list of bytes would need a byte order, which the spec denies
(notes/assumptions/4.md). -/
abbrev MemCell := Nat × Word

/-- The memory as the list of its cells that do not hold what an unlisted index reads as. The canonical form, which every
operation keeps, is `Memory.wf`. -/
abbrev Memory := List MemCell

/-- What an unlisted index reads as: memory is zero-initialized (10_state.md R34, 70_reset_and_hazards.md R201). -/
def Memory.blank : Word := 0#16

/-- The whole state of the engine (10_state.md, its opening record; R35: there is no other), and the configuration it was
built with (00_scope.md R9), which is fixed for the machine. -/
structure State where
  /-- The model's own field: MEMORY_SIZE, CYCLE_LIMIT and RESET_PC. No step changes it. DESIGN CHOICE
  (notes/assumptions/2.md). -/
  cfg : Config
  /-- R0 to R7 (10_state.md R21). -/
  regs : Vector Word 8
  /-- The program counter, a word index (10_state.md R26). -/
  pc : Word
  /-- The memory that fetch, load and store share (10_state.md R34). -/
  mem : Memory
  /-- The run state, with the fault record when it is Faulted (10_state.md R30, R31). -/
  run : RunState
  /-- The cycle counter, an unbounded natural number (10_state.md R32). -/
  cycles : Nat
  /-- The diagnostics log, oldest event first (10_state.md R33). -/
  diag : List DiagEvent
deriving DecidableEq, Repr

/-- Reasons for the model's machine to stop outside the spec: there is none, and no step raises one. The engine's own
faults are no such stop: a fault makes the run state Faulted and is a next state (60_exceptions.md R170, R172). DEDUCED
(notes/assumptions/7.md). -/
inductive Fault where
deriving DecidableEq, Repr

/-- Reasons to give no meaning. -/
inductive Refusal where
  /-- An instruction without a meaning in the model; raised by no arm of `exec`. Safe: it stops where the hardware goes
  on. -/
  | notModelled (mnemonic : String)
deriving DecidableEq, Repr

/-- The machine right after reset (70_reset_and_hazards.md R200, R201) with the standard configuration, HAS_WORDS = 1 and
an image of words 0x0000 only, so that the memory lists nothing. DESIGN CHOICE of the two inputs (notes/assumptions/3.md). -/
def State.reset : State :=
  { cfg := Config.standard
    regs := Vector.replicate 8 0#16
    pc := 1#16
    mem := []
    run := .running
    cycles := 0
    diag := [] }

end Sys2Proof.Machine
end

