-- ==== Sys2Proof/Machine/Ops.lean ====
section
/-! DEFINITION. The named operations over memory, registers, the pc, the run state and the diagnostics log: the primitives
of 00_scope.md R12. A fault is one shared operation, `State.raise`. There is nothing to return from: no instruction leaves
Faulted, no pc or status is saved (60_exceptions.md R170, R173). -/

namespace Sys2Proof.Machine

/-! ### Memory as a list -/

/-- The Word at an index (20_memory.md R40). -/
def Memory.read : Memory → Nat → Word
  | [], _ => Memory.blank
  | (a, v) :: rest, i => if a = i then v else Memory.read rest i

/-- A cell in front of a list, unless it holds what an unlisted index reads as. -/
def Memory.putCell (i : Nat) (v : Word) (m : Memory) : Memory :=
  if v = Memory.blank then m else (i, v) :: m

/-- The memory with one cell changed (20_memory.md R42), in canonical form. -/
def Memory.write : Memory → Nat → Word → Memory
  | [], i, v => Memory.putCell i v []
  | (a, w) :: rest, i, v =>
    if i < a then Memory.putCell i v ((a, w) :: rest)
    else if i = a then Memory.putCell i v rest
    else (a, w) :: Memory.write rest i v

/-- Every index of the list is at least `lo`, indices rise strictly, and no listed Word is the blank one. -/
def Memory.wfFrom : Nat → Memory → Bool
  | _, [] => true
  | lo, (a, v) :: rest => decide (lo ≤ a) && decide (v ≠ Memory.blank) && Memory.wfFrom (a + 1) rest

/-- The canonical form: equal memories are equal lists. -/
def Memory.wf (m : Memory) : Bool := Memory.wfFrom 0 m

/-- Every listed index is below `size`. -/
def Memory.within (size : Nat) (m : Memory) : Bool := m.all fun cell => decide (cell.1 < size)

/-! ### The bounds-checked primitives -/

/-- The failure OutOfBounds(index) of the memory primitives (20_memory.md R41, R42). -/
structure OutOfBounds where
  index : Word
deriving DecidableEq, Repr

/-- `MemRead(index, 1)` (20_memory.md R41): the index is compared unsigned with MEMORY_SIZE, with no masking (R43). -/
def State.memRead (s : State) (index : Word) : Except OutOfBounds Word :=
  if s.cfg.memorySize ≤ index.toNat then .error ⟨index⟩ else .ok (s.mem.read index.toNat)

/-- The state with one memory cell changed. -/
def State.setCell (s : State) (index value : Word) : State := { s with mem := s.mem.write index.toNat value }

/-- `MemWrite(index, 1, value)` (20_memory.md R42): one cell, or no change at all. -/
def State.memWrite (s : State) (index value : Word) : Except OutOfBounds State :=
  if s.cfg.memorySize ≤ index.toNat then .error ⟨index⟩
  else .ok (s.setCell index value)

/-! ### Registers and the pc -/

/-- `x[i]`: no register is hardwired (10_state.md R21). -/
def State.readReg (s : State) (r : RegIdx) : Word := s.regs.get r

/-- `x[i] <- v`. -/
def State.writeReg (s : State) (r : RegIdx) (v : Word) : State := { s with regs := s.regs.set r.val v r.isLt }

/-- `pc <- target`. -/
def State.setPc (s : State) (target : Word) : State := { s with pc := target }

/-! ### Faults, warnings, halt -/

/-- Raising a fault (60_exceptions.md R172): the run becomes Faulted with its record and the log gets one event. The pc,
the registers and the memory stay as they are. -/
def State.raise (s : State) (cause : FaultCause) (value : Nat) : State :=
  { s with run := .faulted ⟨cause, value⟩, diag := s.diag ++ [.fault cause value] }

/-- `warn(kind, value)` (00_scope.md R12, 60_exceptions.md R174): one event, and nothing else changes. -/
def State.warn (s : State) (kind : WarningKind) (value : Nat) : State :=
  { s with diag := s.diag ++ [.warning kind value] }

/-- `stop Halted` (00_scope.md R12). -/
def State.halt (s : State) : State := { s with run := .halted }

/-- The code of a cause (60_exceptions.md R171). -/
def FaultCause.code : FaultCause → Nat
  | .pcOutOfRange => 1
  | .loadOutOfRange => 2
  | .storeOutOfRange => 3
  | .jumpTargetOutOfRange => 4
  | .resourceExhaustion => 5

/-- The source's two classes of fault (60_exceptions.md R171). -/
inductive FaultClass where
  | addressFault
  | resourceExhaustion
deriving DecidableEq, Repr

/-- The class of a cause (60_exceptions.md R171). -/
def FaultCause.faultClass : FaultCause → FaultClass
  | .pcOutOfRange => .addressFault
  | .loadOutOfRange => .addressFault
  | .storeOutOfRange => .addressFault
  | .jumpTargetOutOfRange => .addressFault
  | .resourceExhaustion => .resourceExhaustion

end Sys2Proof.Machine
end

