-- ==== Sys2Proof/Machine/Cycle.lean ====
section
/-! DEFINITION. The steps of a cycle other than execute (40_engine_cycle.md R81 to R87), which `step` puts in order. -/

namespace Sys2Proof.Machine

/-- Step 1, the PC check (40_engine_cycle.md R81): does it pass? -/
def State.pcInRange (s : State) : Bool := decide (s.pc.toNat < s.cfg.memorySize)

/-- What a failed PC check does (40_engine_cycle.md R81): the fault, and no count (92_eei_decisions.md D4). -/
def State.failPcCheck (s : State) : State := s.raise .pcOutOfRange s.pc.toNat

/-- Step 2, the fetch: the Word the memory holds at the pc (40_engine_cycle.md R82). -/
def State.fetch (s : State) : Word := s.mem.read s.pc.toNat

/-- Step 3, the increment, before decode and execute (40_engine_cycle.md R83). -/
def State.advancePc (s : State) : State := s.setPc (s.pc + 1)

/-- Step 4, the decode of the fetched word (40_engine_cycle.md R84). -/
def State.currentInstr (s : State) : Instr := decode s.fetch

/-- Step 6, the count (40_engine_cycle.md R86): after every execute, whatever it did. -/
def State.countCycle (s : State) : State := { s with cycles := s.cycles + 1 }

/-- Step 7, the ceiling check (40_engine_cycle.md R87): only a run that is still Running can exceed the ceiling
(92_eei_decisions.md D3). -/
def State.checkCeiling (s : State) : State :=
  if s.run = .running ∧ s.cfg.cycleLimit < s.cycles then s.raise .resourceExhaustion s.cfg.cycleLimit else s

/-- Steps 6 and 7, which follow execute. -/
def State.endCycle (s : State) : State := s.countCycle.checkCeiling

/-- The rest of a cycle after what execute answered. -/
def finishCycle : Host.Outcome State Fault Refusal → Host.Outcome State Fault Refusal
  | .next t => .next t.endCycle
  | .fault r => .fault r
  | .refused r => .refused r

/-- The instruction word placed where the next step fetches it, as the loader would have placed it (70_reset_and_hazards.md
R200): the Word at the pc, and a run that is Running, for no other run fetches. DESIGN CHOICE (notes/assumptions/8.md). -/
def State.placeAtPc (s : State) (w : Word) : State :=
  { s with mem := if s.pcInRange then s.mem.write s.pc.toNat w else s.mem, run := .running }

end Sys2Proof.Machine
end

