-- ==== Sys2Proof/Machine/Flags.lean ====
section
/-! DEFINITION. The engine has no flags, condition codes or predicates, and no instruction writes one (10_state.md R39). What
stands in their place: a comparison's result is a Word, 1 or 0, and a condition is a Word that is not 0. -/

namespace Sys2Proof.Machine

/-- A comparison's result in a general register: 0x0001 or 0x0000 (41_alu.md R105, R106). -/
def comparisonWord (b : Bool) : Word := if b then 1#16 else 0#16

/-- The test of `jump_cond`: any value but 0, unsigned (44_jump.md R141). -/
def conditionHolds (c : Word) : Bool := decide (c ≠ 0#16)

end Sys2Proof.Machine
end

