-- ==== Sys2Proof/Machine/Operands.lean ====
section
/-! DEFINITION. Where operands come from and results go (30_encoding.md R67 and R68): read ports A and B, the write port, the
implicit R0 of `syscall`, the word index of `load` and `store`, and the immediate. -/

namespace Sys2Proof.Machine

/-- Read port A: FormatR's rs1, FormatI's reg (30_encoding.md R68). -/
def State.portA (s : State) (r : RegIdx) : Word := s.readReg r

/-- Read port B: FormatR's rs2 (30_encoding.md R68). -/
def State.portB (s : State) (r : RegIdx) : Word := s.readReg r

/-- The write port: FormatR's rd, FormatI's reg (30_encoding.md R68). -/
def State.writePort (s : State) (r : RegIdx) (v : Word) : State := s.writeReg r v

/-- The service number: the whole of R0 when the `syscall` executes (10_state.md R22, 92_eei_decisions.md D13). -/
def State.serviceNumber (s : State) : Word := s.portA Config.syscallSelector

/-- The one addressing mode, register indirect with no offset (42_loadstore.md R120): the word index is `x[rs1]`. -/
def State.wordIndex (s : State) (rs1 : RegIdx) : Word := s.portA rs1

/-- The immediate as an operand: already zero-extended by the decoder, neither scaled nor sign-extended (30_encoding.md
R67). -/
def immediateOperand (imm : Word) : Word := imm

/-- A FormatR instruction that computes `x[rd]` from `x[rs1]` and `x[rs2]` (41_alu.md R100): both are read before the write
(10_state.md R23). -/
def State.binary (s : State) (f : Word → Word → Word) (rd rs1 rs2 : RegIdx) : State :=
  s.writePort rd (f (s.portA rs1) (s.portB rs2))

end Sys2Proof.Machine
end

