-- ==== Sys2Proof/Machine/Alu.lean ====
section
/-! DEFINITION. The six ALU instructions (41_alu.md R100 to R107): computed on integers and narrowed to a Word at the end
(00_scope.md R11). None of them raises a fault, warns, or touches memory or the pc (R100). -/

namespace Sys2Proof.Machine

/-- `(a + b) mod 65536` (41_alu.md R101). -/
def aluAdd (a b : Word) : Word := BitVec.ofNat 16 ((a.toNat + b.toNat) % wordModulus)

/-- `(a - b) mod 65536`, on integers (41_alu.md R102). -/
def aluSub (a b : Word) : Word := BitVec.ofInt 16 (((a.toNat : Int) - (b.toNat : Int)) % (wordModulus : Int))

/-- `(a * b) mod 65536`: the low 16 bits of the unsigned product (41_alu.md R103). -/
def aluMul (a b : Word) : Word := BitVec.ofNat 16 ((a.toNat * b.toNat) % wordModulus)

/-- The unsigned quotient, and 0 for a divisor of 0 (41_alu.md R104, 92_eei_decisions.md D16). -/
def aluDiv (a b : Word) : Word := if b.toNat = 0 then 0#16 else BitVec.ofNat 16 (a.toNat / b.toNat)

/-- 1 if the Words are equal, else 0 (41_alu.md R105). -/
def aluCmpEqual (a b : Word) : Word := comparisonWord (decide (a = b))

/-- 1 if the Words differ, else 0 (41_alu.md R106). -/
def aluCmpNeq (a b : Word) : Word := comparisonWord (decide (a ≠ b))

/-- `add` (41_alu.md R101). -/
def execAdd (rd rs1 rs2 : RegIdx) (s : State) : Host.Outcome State Fault Refusal := .next (s.binary aluAdd rd rs1 rs2)

/-- `sub` (41_alu.md R102). -/
def execSub (rd rs1 rs2 : RegIdx) (s : State) : Host.Outcome State Fault Refusal := .next (s.binary aluSub rd rs1 rs2)

/-- `mul` (41_alu.md R103). -/
def execMul (rd rs1 rs2 : RegIdx) (s : State) : Host.Outcome State Fault Refusal := .next (s.binary aluMul rd rs1 rs2)

/-- `div` (41_alu.md R104): a divisor of 0 writes 0 and is no fault. -/
def execDiv (rd rs1 rs2 : RegIdx) (s : State) : Host.Outcome State Fault Refusal := .next (s.binary aluDiv rd rs1 rs2)

/-- `cmp_equal` (41_alu.md R105). -/
def execCmpEqual (rd rs1 rs2 : RegIdx) (s : State) : Host.Outcome State Fault Refusal :=
  .next (s.binary aluCmpEqual rd rs1 rs2)

/-- `cmp_neq` (41_alu.md R106). -/
def execCmpNeq (rd rs1 rs2 : RegIdx) (s : State) : Host.Outcome State Fault Refusal :=
  .next (s.binary aluCmpNeq rd rs1 rs2)

end Sys2Proof.Machine
end

