-- ==== Sys2Proof/Machine/Jump.lean ====
section
/-! DEFINITION. `jump` and `jump_cond` (44_jump.md R140 to R142): absolute targets, no link, no delay slot. -/

namespace Sys2Proof.Machine

/-- A taken transfer (44_jump.md R140, R141): the target is checked against MEMORY_SIZE; out of range, the pc keeps its
value and the fault is raised. -/
def State.jumpTo (s : State) (target : Word) : State :=
  if target.toNat < s.cfg.memorySize then s.setPc target else s.raise .jumpTargetOutOfRange target.toNat

/-- `jump` (44_jump.md R140). -/
def execJump (imm : Word) (s : State) : Host.Outcome State Fault Refusal := .next (s.jumpTo (immediateOperand imm))

/-- `jump_cond` (44_jump.md R141): not taken, it has no effect, whatever its target. -/
def execJumpCond (reg : RegIdx) (imm : Word) (s : State) : Host.Outcome State Fault Refusal :=
  if conditionHolds (s.portA reg) then .next (s.jumpTo (immediateOperand imm)) else .next s

end Sys2Proof.Machine
end

