-- ==== Sys2Proof/Machine/LoadStore.lean ====
section
/-! DEFINITION. `load` and `store` (42_loadstore.md R120 to R123). An index outside the memory raises the instruction's
AddressFault; the register, or the memory, is then not written. -/

namespace Sys2Proof.Machine

/-- `load` (42_loadstore.md R121). -/
def execLoad (rd rs1 : RegIdx) (s : State) : Host.Outcome State Fault Refusal :=
  match s.memRead (s.wordIndex rs1) with
  | .ok v => .next (s.writePort rd v)
  | .error e => .next (s.raise .loadOutOfRange e.index.toNat)

/-- `store` (42_loadstore.md R122). -/
def execStore (rs1 rs2 : RegIdx) (s : State) : Host.Outcome State Fault Refusal :=
  match s.memWrite (s.wordIndex rs1) (s.portB rs2) with
  | .ok t => .next t
  | .error e => .next (s.raise .storeOutOfRange e.index.toNat)

end Sys2Proof.Machine
end

