-- ==== Sys2Proof/Machine/Mov.lean ====
section
/-! DEFINITION. `mov` (45_mov.md R150). -/

namespace Sys2Proof.Machine

/-- `mov` (45_mov.md R150): the whole register is written with the zero-extended immediate. -/
def execMov (reg : RegIdx) (imm : Word) (s : State) : Host.Outcome State Fault Refusal :=
  .next (s.writePort reg (immediateOperand imm))

end Sys2Proof.Machine
end

