-- ==== Sys2Proof/Machine/Syscall.lean ====
section
/-! DEFINITION. `syscall` (43_syscall.md R130 to R132): the service table has one entry, halt. It is no trap. -/

namespace Sys2Proof.Machine

/-- `syscall` (43_syscall.md R130): service 0 halts, any other warns. -/
def execSyscall (s : State) : Host.Outcome State Fault Refusal :=
  if s.serviceNumber = Config.haltService then .next s.halt
  else .next (s.warn .unimplementedService s.serviceNumber.toNat)

end Sys2Proof.Machine
end

