-- ==== Sys2Proof/Machine/Unassigned.lean ====
section
/-! DEFINITION. The meanings of the 56 unassigned opcodes (46_unrecognized.md): a no-op that logs a warning, never a fault
(30_encoding.md R72, 60_exceptions.md R174, 90_conflicts.md C5). Each row of the opcode table has its own definition. -/

namespace Sys2Proof.Machine

/-- An unassigned FormatR opcode (46_unrecognized.md R160): one warning with the opcode's number, and nothing else. -/
def unassignedOpcodeR (opcode : Nat) (s : State) : Host.Outcome State Fault Refusal :=
  .next (s.warn .unrecognizedOpcodeR opcode)

/-- An unassigned FormatI opcode (46_unrecognized.md R161): one warning with the opcode's number, and nothing else. -/
def unassignedOpcodeI (opcode : Nat) (s : State) : Host.Outcome State Fault Refusal :=
  .next (s.warn .unrecognizedOpcodeI opcode)

/-- `unassigned_r6`: FormatR opcode 6 (46_unrecognized.md R160). -/
def execUnassignedR6 (s : State) : Host.Outcome State Fault Refusal := unassignedOpcodeR 6 s

/-- `unassigned_r7`: FormatR opcode 7 (46_unrecognized.md R160). -/
def execUnassignedR7 (s : State) : Host.Outcome State Fault Refusal := unassignedOpcodeR 7 s

/-- `unassigned_r8`: FormatR opcode 8 (46_unrecognized.md R160). -/
def execUnassignedR8 (s : State) : Host.Outcome State Fault Refusal := unassignedOpcodeR 8 s

/-- `unassigned_r9`: FormatR opcode 9 (46_unrecognized.md R160). -/
def execUnassignedR9 (s : State) : Host.Outcome State Fault Refusal := unassignedOpcodeR 9 s

/-- `unassigned_r10`: FormatR opcode 10 (46_unrecognized.md R160). -/
def execUnassignedR10 (s : State) : Host.Outcome State Fault Refusal := unassignedOpcodeR 10 s

/-- `unassigned_r11`: FormatR opcode 11 (46_unrecognized.md R160). -/
def execUnassignedR11 (s : State) : Host.Outcome State Fault Refusal := unassignedOpcodeR 11 s

/-- `unassigned_r12`: FormatR opcode 12 (46_unrecognized.md R160). -/
def execUnassignedR12 (s : State) : Host.Outcome State Fault Refusal := unassignedOpcodeR 12 s

/-- `unassigned_r13`: FormatR opcode 13 (46_unrecognized.md R160). -/
def execUnassignedR13 (s : State) : Host.Outcome State Fault Refusal := unassignedOpcodeR 13 s

/-- `unassigned_r14`: FormatR opcode 14 (46_unrecognized.md R160). -/
def execUnassignedR14 (s : State) : Host.Outcome State Fault Refusal := unassignedOpcodeR 14 s

/-- `unassigned_r17`: FormatR opcode 17 (46_unrecognized.md R160). -/
def execUnassignedR17 (s : State) : Host.Outcome State Fault Refusal := unassignedOpcodeR 17 s

/-- `unassigned_r18`: FormatR opcode 18 (46_unrecognized.md R160). -/
def execUnassignedR18 (s : State) : Host.Outcome State Fault Refusal := unassignedOpcodeR 18 s

/-- `unassigned_r19`: FormatR opcode 19 (46_unrecognized.md R160). -/
def execUnassignedR19 (s : State) : Host.Outcome State Fault Refusal := unassignedOpcodeR 19 s

/-- `unassigned_r20`: FormatR opcode 20 (46_unrecognized.md R160). -/
def execUnassignedR20 (s : State) : Host.Outcome State Fault Refusal := unassignedOpcodeR 20 s

/-- `unassigned_r21`: FormatR opcode 21 (46_unrecognized.md R160). -/
def execUnassignedR21 (s : State) : Host.Outcome State Fault Refusal := unassignedOpcodeR 21 s

/-- `unassigned_r22`: FormatR opcode 22 (46_unrecognized.md R160). -/
def execUnassignedR22 (s : State) : Host.Outcome State Fault Refusal := unassignedOpcodeR 22 s

/-- `unassigned_r23`: FormatR opcode 23 (46_unrecognized.md R160). -/
def execUnassignedR23 (s : State) : Host.Outcome State Fault Refusal := unassignedOpcodeR 23 s

/-- `unassigned_r24`: FormatR opcode 24 (46_unrecognized.md R160). -/
def execUnassignedR24 (s : State) : Host.Outcome State Fault Refusal := unassignedOpcodeR 24 s

/-- `unassigned_r25`: FormatR opcode 25 (46_unrecognized.md R160). -/
def execUnassignedR25 (s : State) : Host.Outcome State Fault Refusal := unassignedOpcodeR 25 s

/-- `unassigned_r26`: FormatR opcode 26 (46_unrecognized.md R160). -/
def execUnassignedR26 (s : State) : Host.Outcome State Fault Refusal := unassignedOpcodeR 26 s

/-- `unassigned_r27`: FormatR opcode 27 (46_unrecognized.md R160). -/
def execUnassignedR27 (s : State) : Host.Outcome State Fault Refusal := unassignedOpcodeR 27 s

/-- `unassigned_r28`: FormatR opcode 28 (46_unrecognized.md R160). -/
def execUnassignedR28 (s : State) : Host.Outcome State Fault Refusal := unassignedOpcodeR 28 s

/-- `unassigned_r29`: FormatR opcode 29 (46_unrecognized.md R160). -/
def execUnassignedR29 (s : State) : Host.Outcome State Fault Refusal := unassignedOpcodeR 29 s

/-- `unassigned_r30`: FormatR opcode 30 (46_unrecognized.md R160). -/
def execUnassignedR30 (s : State) : Host.Outcome State Fault Refusal := unassignedOpcodeR 30 s

/-- `unassigned_r31`: FormatR opcode 31 (46_unrecognized.md R160). -/
def execUnassignedR31 (s : State) : Host.Outcome State Fault Refusal := unassignedOpcodeR 31 s

/-- `unassigned_r32`: FormatR opcode 32 (46_unrecognized.md R160). -/
def execUnassignedR32 (s : State) : Host.Outcome State Fault Refusal := unassignedOpcodeR 32 s

/-- `unassigned_r33`: FormatR opcode 33 (46_unrecognized.md R160). -/
def execUnassignedR33 (s : State) : Host.Outcome State Fault Refusal := unassignedOpcodeR 33 s

/-- `unassigned_r34`: FormatR opcode 34 (46_unrecognized.md R160). -/
def execUnassignedR34 (s : State) : Host.Outcome State Fault Refusal := unassignedOpcodeR 34 s

/-- `unassigned_r35`: FormatR opcode 35 (46_unrecognized.md R160). -/
def execUnassignedR35 (s : State) : Host.Outcome State Fault Refusal := unassignedOpcodeR 35 s

/-- `unassigned_r36`: FormatR opcode 36 (46_unrecognized.md R160). -/
def execUnassignedR36 (s : State) : Host.Outcome State Fault Refusal := unassignedOpcodeR 36 s

/-- `unassigned_r37`: FormatR opcode 37 (46_unrecognized.md R160). -/
def execUnassignedR37 (s : State) : Host.Outcome State Fault Refusal := unassignedOpcodeR 37 s

/-- `unassigned_r38`: FormatR opcode 38 (46_unrecognized.md R160). -/
def execUnassignedR38 (s : State) : Host.Outcome State Fault Refusal := unassignedOpcodeR 38 s

/-- `unassigned_r39`: FormatR opcode 39 (46_unrecognized.md R160). -/
def execUnassignedR39 (s : State) : Host.Outcome State Fault Refusal := unassignedOpcodeR 39 s

/-- `unassigned_r40`: FormatR opcode 40 (46_unrecognized.md R160). -/
def execUnassignedR40 (s : State) : Host.Outcome State Fault Refusal := unassignedOpcodeR 40 s

/-- `unassigned_r41`: FormatR opcode 41 (46_unrecognized.md R160). -/
def execUnassignedR41 (s : State) : Host.Outcome State Fault Refusal := unassignedOpcodeR 41 s

/-- `unassigned_r42`: FormatR opcode 42 (46_unrecognized.md R160). -/
def execUnassignedR42 (s : State) : Host.Outcome State Fault Refusal := unassignedOpcodeR 42 s

/-- `unassigned_r43`: FormatR opcode 43 (46_unrecognized.md R160). -/
def execUnassignedR43 (s : State) : Host.Outcome State Fault Refusal := unassignedOpcodeR 43 s

/-- `unassigned_r44`: FormatR opcode 44 (46_unrecognized.md R160). -/
def execUnassignedR44 (s : State) : Host.Outcome State Fault Refusal := unassignedOpcodeR 44 s

/-- `unassigned_r45`: FormatR opcode 45 (46_unrecognized.md R160). -/
def execUnassignedR45 (s : State) : Host.Outcome State Fault Refusal := unassignedOpcodeR 45 s

/-- `unassigned_r46`: FormatR opcode 46 (46_unrecognized.md R160). -/
def execUnassignedR46 (s : State) : Host.Outcome State Fault Refusal := unassignedOpcodeR 46 s

/-- `unassigned_r47`: FormatR opcode 47 (46_unrecognized.md R160). -/
def execUnassignedR47 (s : State) : Host.Outcome State Fault Refusal := unassignedOpcodeR 47 s

/-- `unassigned_r48`: FormatR opcode 48 (46_unrecognized.md R160). -/
def execUnassignedR48 (s : State) : Host.Outcome State Fault Refusal := unassignedOpcodeR 48 s

/-- `unassigned_r49`: FormatR opcode 49 (46_unrecognized.md R160). -/
def execUnassignedR49 (s : State) : Host.Outcome State Fault Refusal := unassignedOpcodeR 49 s

/-- `unassigned_r50`: FormatR opcode 50 (46_unrecognized.md R160). -/
def execUnassignedR50 (s : State) : Host.Outcome State Fault Refusal := unassignedOpcodeR 50 s

/-- `unassigned_r51`: FormatR opcode 51 (46_unrecognized.md R160). -/
def execUnassignedR51 (s : State) : Host.Outcome State Fault Refusal := unassignedOpcodeR 51 s

/-- `unassigned_r52`: FormatR opcode 52 (46_unrecognized.md R160). -/
def execUnassignedR52 (s : State) : Host.Outcome State Fault Refusal := unassignedOpcodeR 52 s

/-- `unassigned_r53`: FormatR opcode 53 (46_unrecognized.md R160). -/
def execUnassignedR53 (s : State) : Host.Outcome State Fault Refusal := unassignedOpcodeR 53 s

/-- `unassigned_r54`: FormatR opcode 54 (46_unrecognized.md R160). -/
def execUnassignedR54 (s : State) : Host.Outcome State Fault Refusal := unassignedOpcodeR 54 s

/-- `unassigned_r55`: FormatR opcode 55 (46_unrecognized.md R160). -/
def execUnassignedR55 (s : State) : Host.Outcome State Fault Refusal := unassignedOpcodeR 55 s

/-- `unassigned_r56`: FormatR opcode 56 (46_unrecognized.md R160). -/
def execUnassignedR56 (s : State) : Host.Outcome State Fault Refusal := unassignedOpcodeR 56 s

/-- `unassigned_r57`: FormatR opcode 57 (46_unrecognized.md R160). -/
def execUnassignedR57 (s : State) : Host.Outcome State Fault Refusal := unassignedOpcodeR 57 s

/-- `unassigned_r58`: FormatR opcode 58 (46_unrecognized.md R160). -/
def execUnassignedR58 (s : State) : Host.Outcome State Fault Refusal := unassignedOpcodeR 58 s

/-- `unassigned_r59`: FormatR opcode 59 (46_unrecognized.md R160). -/
def execUnassignedR59 (s : State) : Host.Outcome State Fault Refusal := unassignedOpcodeR 59 s

/-- `unassigned_r60`: FormatR opcode 60 (46_unrecognized.md R160). -/
def execUnassignedR60 (s : State) : Host.Outcome State Fault Refusal := unassignedOpcodeR 60 s

/-- `unassigned_r61`: FormatR opcode 61 (46_unrecognized.md R160). -/
def execUnassignedR61 (s : State) : Host.Outcome State Fault Refusal := unassignedOpcodeR 61 s

/-- `unassigned_r62`: FormatR opcode 62 (46_unrecognized.md R160). -/
def execUnassignedR62 (s : State) : Host.Outcome State Fault Refusal := unassignedOpcodeR 62 s

/-- `unassigned_i2`: FormatI opcode 2 (46_unrecognized.md R161). -/
def execUnassignedI2 (s : State) : Host.Outcome State Fault Refusal := unassignedOpcodeI 2 s

end Sys2Proof.Machine
end

