-- ==== Sys2Proof/Machine/Dispatch.lean ====
section
/-! DEFINITION. Execute, step 5 of the cycle (40_engine_cycle.md R85): one arm for each constructor of Instr. The state given
already holds the incremented pc (R83). DEDUCED (notes/assumptions/6.md). -/

namespace Sys2Proof.Machine

def exec (i : Instr) (s : State) : Host.Outcome State Fault Refusal :=
  match i with
  | .add rd rs1 rs2 => Sys2Proof.Machine.execAdd rd rs1 rs2 s
  | .sub rd rs1 rs2 => Sys2Proof.Machine.execSub rd rs1 rs2 s
  | .mul rd rs1 rs2 => Sys2Proof.Machine.execMul rd rs1 rs2 s
  | .div rd rs1 rs2 => Sys2Proof.Machine.execDiv rd rs1 rs2 s
  | .cmpEqual rd rs1 rs2 => Sys2Proof.Machine.execCmpEqual rd rs1 rs2 s
  | .cmpNeq rd rs1 rs2 => Sys2Proof.Machine.execCmpNeq rd rs1 rs2 s
  | .load rd rs1 _ => Sys2Proof.Machine.execLoad rd rs1 s
  | .store _ rs1 rs2 => Sys2Proof.Machine.execStore rs1 rs2 s
  | .syscall _ _ _ => Sys2Proof.Machine.execSyscall s
  | .jump _ imm => Sys2Proof.Machine.execJump imm s
  | .jumpCond reg imm => Sys2Proof.Machine.execJumpCond reg imm s
  | .mov reg imm => Sys2Proof.Machine.execMov reg imm s
  | .unassignedR6 _ _ _ => Sys2Proof.Machine.execUnassignedR6 s
  | .unassignedR7 _ _ _ => Sys2Proof.Machine.execUnassignedR7 s
  | .unassignedR8 _ _ _ => Sys2Proof.Machine.execUnassignedR8 s
  | .unassignedR9 _ _ _ => Sys2Proof.Machine.execUnassignedR9 s
  | .unassignedR10 _ _ _ => Sys2Proof.Machine.execUnassignedR10 s
  | .unassignedR11 _ _ _ => Sys2Proof.Machine.execUnassignedR11 s
  | .unassignedR12 _ _ _ => Sys2Proof.Machine.execUnassignedR12 s
  | .unassignedR13 _ _ _ => Sys2Proof.Machine.execUnassignedR13 s
  | .unassignedR14 _ _ _ => Sys2Proof.Machine.execUnassignedR14 s
  | .unassignedR17 _ _ _ => Sys2Proof.Machine.execUnassignedR17 s
  | .unassignedR18 _ _ _ => Sys2Proof.Machine.execUnassignedR18 s
  | .unassignedR19 _ _ _ => Sys2Proof.Machine.execUnassignedR19 s
  | .unassignedR20 _ _ _ => Sys2Proof.Machine.execUnassignedR20 s
  | .unassignedR21 _ _ _ => Sys2Proof.Machine.execUnassignedR21 s
  | .unassignedR22 _ _ _ => Sys2Proof.Machine.execUnassignedR22 s
  | .unassignedR23 _ _ _ => Sys2Proof.Machine.execUnassignedR23 s
  | .unassignedR24 _ _ _ => Sys2Proof.Machine.execUnassignedR24 s
  | .unassignedR25 _ _ _ => Sys2Proof.Machine.execUnassignedR25 s
  | .unassignedR26 _ _ _ => Sys2Proof.Machine.execUnassignedR26 s
  | .unassignedR27 _ _ _ => Sys2Proof.Machine.execUnassignedR27 s
  | .unassignedR28 _ _ _ => Sys2Proof.Machine.execUnassignedR28 s
  | .unassignedR29 _ _ _ => Sys2Proof.Machine.execUnassignedR29 s
  | .unassignedR30 _ _ _ => Sys2Proof.Machine.execUnassignedR30 s
  | .unassignedR31 _ _ _ => Sys2Proof.Machine.execUnassignedR31 s
  | .unassignedR32 _ _ _ => Sys2Proof.Machine.execUnassignedR32 s
  | .unassignedR33 _ _ _ => Sys2Proof.Machine.execUnassignedR33 s
  | .unassignedR34 _ _ _ => Sys2Proof.Machine.execUnassignedR34 s
  | .unassignedR35 _ _ _ => Sys2Proof.Machine.execUnassignedR35 s
  | .unassignedR36 _ _ _ => Sys2Proof.Machine.execUnassignedR36 s
  | .unassignedR37 _ _ _ => Sys2Proof.Machine.execUnassignedR37 s
  | .unassignedR38 _ _ _ => Sys2Proof.Machine.execUnassignedR38 s
  | .unassignedR39 _ _ _ => Sys2Proof.Machine.execUnassignedR39 s
  | .unassignedR40 _ _ _ => Sys2Proof.Machine.execUnassignedR40 s
  | .unassignedR41 _ _ _ => Sys2Proof.Machine.execUnassignedR41 s
  | .unassignedR42 _ _ _ => Sys2Proof.Machine.execUnassignedR42 s
  | .unassignedR43 _ _ _ => Sys2Proof.Machine.execUnassignedR43 s
  | .unassignedR44 _ _ _ => Sys2Proof.Machine.execUnassignedR44 s
  | .unassignedR45 _ _ _ => Sys2Proof.Machine.execUnassignedR45 s
  | .unassignedR46 _ _ _ => Sys2Proof.Machine.execUnassignedR46 s
  | .unassignedR47 _ _ _ => Sys2Proof.Machine.execUnassignedR47 s
  | .unassignedR48 _ _ _ => Sys2Proof.Machine.execUnassignedR48 s
  | .unassignedR49 _ _ _ => Sys2Proof.Machine.execUnassignedR49 s
  | .unassignedR50 _ _ _ => Sys2Proof.Machine.execUnassignedR50 s
  | .unassignedR51 _ _ _ => Sys2Proof.Machine.execUnassignedR51 s
  | .unassignedR52 _ _ _ => Sys2Proof.Machine.execUnassignedR52 s
  | .unassignedR53 _ _ _ => Sys2Proof.Machine.execUnassignedR53 s
  | .unassignedR54 _ _ _ => Sys2Proof.Machine.execUnassignedR54 s
  | .unassignedR55 _ _ _ => Sys2Proof.Machine.execUnassignedR55 s
  | .unassignedR56 _ _ _ => Sys2Proof.Machine.execUnassignedR56 s
  | .unassignedR57 _ _ _ => Sys2Proof.Machine.execUnassignedR57 s
  | .unassignedR58 _ _ _ => Sys2Proof.Machine.execUnassignedR58 s
  | .unassignedR59 _ _ _ => Sys2Proof.Machine.execUnassignedR59 s
  | .unassignedR60 _ _ _ => Sys2Proof.Machine.execUnassignedR60 s
  | .unassignedR61 _ _ _ => Sys2Proof.Machine.execUnassignedR61 s
  | .unassignedR62 _ _ _ => Sys2Proof.Machine.execUnassignedR62 s
  | .unassignedI2 _ _ => Sys2Proof.Machine.execUnassignedI2 s

end Sys2Proof.Machine
end

