-- ==== Sys2Proof/Machine/Step.lean ====
section
/-! DEFINITION. One iteration of the engine's loop (40_engine_cycle.md R88). -/

namespace Sys2Proof.Machine

/-- One loop iteration (40_engine_cycle.md R88). In a terminal state the engine performs no step and every part of its
state keeps its value (R89), so the state answered is the same one (DEDUCED, notes/assumptions/1.md). -/
def step (s : State) : Host.Outcome State Fault Refusal :=
  match s.run with
  | .halted => .next s
  | .faulted _ => .next s
  | .running =>
    if s.pcInRange then finishCycle (exec s.currentInstr s.advancePc)
    else .next s.failPcCheck

/-- The state whose next step fetches and runs the instruction word with the bits of `w` (the host's name). -/
def State.withFetchWord (s : State) (nbits w : Nat) : State := s.placeAtPc (tableWord nbits w)

end Sys2Proof.Machine
end

