-- ==== Sys2Proof/Machine/Assembler.lean ====
section
/-! DEFINITION. The assembly forms and the words they stand for (30_encoding.md R74): the spec's own choice, on which no
behaviour depends (92_eei_decisions.md D9). A field that a form does not name is encoded as 0. -/

namespace Sys2Proof.Machine

/-- A line of assembly. An immediate is written as a number from 0 to 1023. -/
inductive AsmLine where
  | add (rd rs1 rs2 : RegIdx)
  | sub (rd rs1 rs2 : RegIdx)
  | mul (rd rs1 rs2 : RegIdx)
  | div (rd rs1 rs2 : RegIdx)
  | cmpEqual (rd rs1 rs2 : RegIdx)
  | cmpNeq (rd rs1 rs2 : RegIdx)
  | load (rd rs1 : RegIdx)
  | store (rs1 rs2 : RegIdx)
  | syscall
  | jump (imm : Fin 1024)
  | jumpCond (reg : RegIdx) (imm : Fin 1024)
  | mov (reg : RegIdx) (imm : Fin 1024)
  | word (n : Word)
deriving DecidableEq, Repr

/-- The word a line assembles to (30_encoding.md R74). -/
def assemble : AsmLine → Word
  | .add rd rs1 rs2 => encodeR 0 rd rs1 rs2
  | .sub rd rs1 rs2 => encodeR 1 rd rs1 rs2
  | .mul rd rs1 rs2 => encodeR 2 rd rs1 rs2
  | .div rd rs1 rs2 => encodeR 3 rd rs1 rs2
  | .cmpEqual rd rs1 rs2 => encodeR 4 rd rs1 rs2
  | .cmpNeq rd rs1 rs2 => encodeR 5 rd rs1 rs2
  | .load rd rs1 => encodeR 15 rd rs1 0
  | .store rs1 rs2 => encodeR 16 0 rs1 rs2
  | .syscall => encodeR 63 0 0 0
  | .jump imm => encodeI 0 0 (BitVec.ofNat 16 imm.val)
  | .jumpCond reg imm => encodeI 1 reg (BitVec.ofNat 16 imm.val)
  | .mov reg imm => encodeI 3 reg (BitVec.ofNat 16 imm.val)
  | .word n => n

end Sys2Proof.Machine
end

