-- ==== Sys2Proof/Machine/Observer.lean ====
section
/-! DEFINITION. The engine's outputs (00_scope.md R6): RUN_STATE and DIAG are fields of State; FAULT and OBSERVE are read off
it here, and neither changes it (60_exceptions.md R181). -/

namespace Sys2Proof.Machine

/-- The FAULT output, valid when the run is Faulted (00_scope.md R6). -/
def State.faultOutput (s : State) : Option FaultRecord :=
  match s.run with
  | .faulted r => some r
  | .running => none
  | .halted => none

/-- The observer's snapshot (60_exceptions.md R181). -/
structure Snapshot where
  pc : Word
  pcByte : Nat
  regs : Vector Word 8
deriving DecidableEq, Repr

/-- The OBSERVE output: a snapshot at the start of an iteration, taken only while Running and before the PC check
(60_exceptions.md R181, 92_eei_decisions.md D18). `pc_byte` is a natural number, not reduced to 16 bits. -/
def State.observe (s : State) : Option Snapshot :=
  match s.run with
  | .running => some { pc := s.pc, pcByte := 2 * s.pc.toNat, regs := s.regs }
  | .halted => none
  | .faulted _ => none

/-- The snapshots of the first `n` iterations, in order. -/
def observations : Nat → State → List Snapshot
  | 0, _ => []
  | n + 1, s =>
    match step s with
    | .next t => s.observe.toList ++ observations n t
    | .fault _ => s.observe.toList
    | .refused _ => s.observe.toList

end Sys2Proof.Machine
end

