-- ==== Sys2Proof/Machine/Reset.lean ====
section
/-! DEFINITION. Reset as a function of its inputs (70_reset_and_hazards.md R200 to R203): the configuration, the image's words
and HAS_WORDS, which are sampled at reset only (00_scope.md R6, R7). -/

namespace Sys2Proof.Machine

/-- The cells of an image whose first word goes to index `k`. -/
def Memory.ofImageFrom : Nat → List Word → Memory
  | _, [] => []
  | k, w :: ws => Memory.putCell k w (Memory.ofImageFrom (k + 1) ws)

/-- A zero-initialized memory of `size` words filled from the image (70_reset_and_hazards.md R200, R202): word k at index k,
what is beyond the capacity ignored, the rest zero. -/
def Memory.ofImage (size : Nat) (image : List Word) : Memory := Memory.ofImageFrom 0 (image.take size)

/-- `reset(IMAGE, HAS_WORDS)` (70_reset_and_hazards.md R200), IMAGE as the list of the loaded words. DEDUCED
(notes/assumptions/12.md). -/
def State.resetFrom (cfg : Config) (image : List Word) (hasWords : Bool) : State :=
  { cfg := cfg
    regs := Vector.replicate 8 0#16
    pc := BitVec.ofNat 16 cfg.resetPc
    mem := Memory.ofImage cfg.memorySize image
    run := if hasWords then .running else .halted
    cycles := 0
    diag := [] }

/-- Reset after the loader's work (70_reset_and_hazards.md R202): HAS_WORDS says whether the image has a word. -/
def State.load (cfg : Config) (image : List Word) : State := State.resetFrom cfg image (!image.isEmpty)

end Sys2Proof.Machine
end

