-- ==== Sys2Proof/Safety.lean ====
section
/-! DEFINITION. What counts as a sound state and a run that has ended, and the terms the statements use for what an instruction
changes and leaves alone. -/

namespace Sys2Proof.Machine

/-- A run that has ended (10_state.md R30). -/
def RunState.terminal : RunState → Bool
  | .running => false
  | .halted => true
  | .faulted _ => true

/-- The register an instruction may write (30_encoding.md R68): the write port's. -/
def destination : Instr → Option RegIdx
  | .add rd _ _ => some rd
  | .sub rd _ _ => some rd
  | .mul rd _ _ => some rd
  | .div rd _ _ => some rd
  | .cmpEqual rd _ _ => some rd
  | .cmpNeq rd _ _ => some rd
  | .load rd _ _ => some rd
  | .store _ _ _ => none
  | .syscall _ _ _ => none
  | .jump _ _ => none
  | .jumpCond _ _ => none
  | .mov reg _ => some reg
  | .unassignedR6 _ _ _ => none
  | .unassignedR7 _ _ _ => none
  | .unassignedR8 _ _ _ => none
  | .unassignedR9 _ _ _ => none
  | .unassignedR10 _ _ _ => none
  | .unassignedR11 _ _ _ => none
  | .unassignedR12 _ _ _ => none
  | .unassignedR13 _ _ _ => none
  | .unassignedR14 _ _ _ => none
  | .unassignedR17 _ _ _ => none
  | .unassignedR18 _ _ _ => none
  | .unassignedR19 _ _ _ => none
  | .unassignedR20 _ _ _ => none
  | .unassignedR21 _ _ _ => none
  | .unassignedR22 _ _ _ => none
  | .unassignedR23 _ _ _ => none
  | .unassignedR24 _ _ _ => none
  | .unassignedR25 _ _ _ => none
  | .unassignedR26 _ _ _ => none
  | .unassignedR27 _ _ _ => none
  | .unassignedR28 _ _ _ => none
  | .unassignedR29 _ _ _ => none
  | .unassignedR30 _ _ _ => none
  | .unassignedR31 _ _ _ => none
  | .unassignedR32 _ _ _ => none
  | .unassignedR33 _ _ _ => none
  | .unassignedR34 _ _ _ => none
  | .unassignedR35 _ _ _ => none
  | .unassignedR36 _ _ _ => none
  | .unassignedR37 _ _ _ => none
  | .unassignedR38 _ _ _ => none
  | .unassignedR39 _ _ _ => none
  | .unassignedR40 _ _ _ => none
  | .unassignedR41 _ _ _ => none
  | .unassignedR42 _ _ _ => none
  | .unassignedR43 _ _ _ => none
  | .unassignedR44 _ _ _ => none
  | .unassignedR45 _ _ _ => none
  | .unassignedR46 _ _ _ => none
  | .unassignedR47 _ _ _ => none
  | .unassignedR48 _ _ _ => none
  | .unassignedR49 _ _ _ => none
  | .unassignedR50 _ _ _ => none
  | .unassignedR51 _ _ _ => none
  | .unassignedR52 _ _ _ => none
  | .unassignedR53 _ _ _ => none
  | .unassignedR54 _ _ _ => none
  | .unassignedR55 _ _ _ => none
  | .unassignedR56 _ _ _ => none
  | .unassignedR57 _ _ _ => none
  | .unassignedR58 _ _ _ => none
  | .unassignedR59 _ _ _ => none
  | .unassignedR60 _ _ _ => none
  | .unassignedR61 _ _ _ => none
  | .unassignedR62 _ _ _ => none
  | .unassignedI2 _ _ => none

/-- An event that records a fault (10_state.md R33). -/
def DiagEvent.isFault : DiagEvent → Bool
  | .fault _ _ => true
  | .warning _ _ => false

/-- Two states agree in all that the spec calls state, and in the configuration; the memory is compared by what each index
reads as. -/
structure SameState (s t : State) : Prop where
  cfg : t.cfg = s.cfg
  regs : ∀ r, t.readReg r = s.readReg r
  pc : t.pc = s.pc
  mem : ∀ a, t.mem.read a = s.mem.read a
  run : t.run = s.run
  cycles : t.cycles = s.cycles
  diag : t.diag = s.diag

/-- From `s` to `t` only the register `rd` may change, and it reads `v`. -/
structure OnlyRegister (s t : State) (rd : RegIdx) (v : Word) : Prop where
  value : t.readReg rd = v
  others : ∀ r, r ≠ rd → t.readReg r = s.readReg r
  cfg : t.cfg = s.cfg
  pc : t.pc = s.pc
  mem : ∀ a, t.mem.read a = s.mem.read a
  run : t.run = s.run
  cycles : t.cycles = s.cycles
  diag : t.diag = s.diag

/-- From `s` to `t` only the pc may change, and it is `target`. -/
structure OnlyPc (s t : State) (target : Word) : Prop where
  value : t.pc = target
  cfg : t.cfg = s.cfg
  regs : ∀ r, t.readReg r = s.readReg r
  mem : ∀ a, t.mem.read a = s.mem.read a
  run : t.run = s.run
  cycles : t.cycles = s.cycles
  diag : t.diag = s.diag

/-- From `s` to `t` only the memory cell at `index` may change, and it reads `v`. -/
structure OnlyCell (s t : State) (index : Nat) (v : Word) : Prop where
  value : t.mem.read index = v
  others : ∀ a, a ≠ index → t.mem.read a = s.mem.read a
  cfg : t.cfg = s.cfg
  regs : ∀ r, t.readReg r = s.readReg r
  pc : t.pc = s.pc
  run : t.run = s.run
  cycles : t.cycles = s.cycles
  diag : t.diag = s.diag

/-- From `s` to `t` only the run state and the log may change: the run state is `run` and the log has the events `new` more
at its end. -/
structure OnlyRunAndLog (s t : State) (run : RunState) (new : List DiagEvent) : Prop where
  value : t.run = run
  log : t.diag = s.diag ++ new
  cfg : t.cfg = s.cfg
  regs : ∀ r, t.readReg r = s.readReg r
  pc : t.pc = s.pc
  mem : ∀ a, t.mem.read a = s.mem.read a
  cycles : t.cycles = s.cycles

/-- A fault raised between `s` and `t` (60_exceptions.md R172): the run is Faulted with the record, the log has its one event
more, and nothing else changes. -/
def Faults (s t : State) (cause : FaultCause) (value : Nat) : Prop :=
  OnlyRunAndLog s t (.faulted ⟨cause, value⟩) [.fault cause value]

/-- A warning between `s` and `t` (60_exceptions.md R174): the log has its one event more, and nothing else changes. -/
def Warns (s t : State) (kind : WarningKind) (value : Nat) : Prop :=
  OnlyRunAndLog s t s.run [.warning kind value]

/-- What a fault record can hold (60_exceptions.md R171): an index that is a Word outside the memory, or the ceiling. -/
def FaultRecord.legal (c : Config) (r : FaultRecord) : Prop :=
  match r.cause with
  | .resourceExhaustion => r.value = c.cycleLimit
  | _ => c.memorySize ≤ r.value ∧ r.value < wordModulus

/-- The log agrees with the run state: it ends with the record's event when the run is Faulted, and it holds no other fault
(10_state.md R31, R33; 60_exceptions.md R173). -/
def logAgrees : RunState → List DiagEvent → Prop
  | .faulted r, d => ∃ before, d = before ++ [.fault r.cause r.value] ∧ ∀ e ∈ before, e.isFault = false
  | _, d => ∀ e ∈ d, e.isFault = false

/-- The invariant that every step keeps, from any state that has it. -/
structure Inv (s : State) : Prop where
  /-- 00_scope.md R9. -/
  config : s.cfg.Valid
  /-- The memory's canonical form. -/
  memForm : s.mem.wf = true
  /-- No cell outside the memory (20_memory.md R48). -/
  memRange : s.mem.within s.cfg.memorySize = true
  /-- 10_state.md R26. -/
  pcRange : s.pc.toNat ≤ s.cfg.memorySize
  /-- 10_state.md R32. -/
  cyclesMax : s.cycles ≤ s.cfg.cycleLimit + 1
  /-- 40_engine_cycle.md R87: a run that goes on is within the ceiling. -/
  cyclesRunning : s.run = .running → s.cycles ≤ s.cfg.cycleLimit
  /-- 60_exceptions.md R171. -/
  record : ∀ r, s.run = .faulted r → r.legal s.cfg
  /-- 40_engine_cycle.md R87: the ceiling fault comes exactly one cycle above the ceiling. -/
  exhausted : ∀ r, s.run = .faulted r → r.cause = .resourceExhaustion → s.cycles = s.cfg.cycleLimit + 1
  /-- 10_state.md R31, R33. -/
  log : logAgrees s.run s.diag

/-- What keeps two causes of fault out of every run with the standard configuration (40_engine_cycle.md R93): the pc is at
most 1023 above the cycles, and the run has neither fault. -/
structure InvStandard (s : State) : Prop where
  config : s.cfg = Config.standard
  pcBound : s.pc.toNat ≤ 1023 + s.cycles
  ceiling : s.run = .running → s.cycles ≤ s.cfg.cycleLimit
  noPcFault : ∀ v, s.run ≠ .faulted ⟨.pcOutOfRange, v⟩
  noJumpFault : ∀ v, s.run ≠ .faulted ⟨.jumpTargetOutOfRange, v⟩

/-- The FormatR opcodes that are unassigned, with their constructors (46_unrecognized.md R160): 6 to 14. -/
def unassignedLow : List ((RegIdx → RegIdx → RegIdx → Instr) × Nat) :=
  [(.unassignedR6, 6), (.unassignedR7, 7), (.unassignedR8, 8), (.unassignedR9, 9), (.unassignedR10, 10),
   (.unassignedR11, 11), (.unassignedR12, 12), (.unassignedR13, 13), (.unassignedR14, 14)]

/-- The FormatR opcodes that are unassigned: 17 to 39. -/
def unassignedMiddle : List ((RegIdx → RegIdx → RegIdx → Instr) × Nat) :=
  [(.unassignedR17, 17), (.unassignedR18, 18), (.unassignedR19, 19), (.unassignedR20, 20), (.unassignedR21, 21),
   (.unassignedR22, 22), (.unassignedR23, 23), (.unassignedR24, 24), (.unassignedR25, 25), (.unassignedR26, 26),
   (.unassignedR27, 27), (.unassignedR28, 28), (.unassignedR29, 29), (.unassignedR30, 30), (.unassignedR31, 31),
   (.unassignedR32, 32), (.unassignedR33, 33), (.unassignedR34, 34), (.unassignedR35, 35), (.unassignedR36, 36),
   (.unassignedR37, 37), (.unassignedR38, 38), (.unassignedR39, 39)]

/-- The FormatR opcodes that are unassigned: 40 to 62. -/
def unassignedHigh : List ((RegIdx → RegIdx → RegIdx → Instr) × Nat) :=
  [(.unassignedR40, 40), (.unassignedR41, 41), (.unassignedR42, 42), (.unassignedR43, 43), (.unassignedR44, 44),
   (.unassignedR45, 45), (.unassignedR46, 46), (.unassignedR47, 47), (.unassignedR48, 48), (.unassignedR49, 49),
   (.unassignedR50, 50), (.unassignedR51, 51), (.unassignedR52, 52), (.unassignedR53, 53), (.unassignedR54, 54),
   (.unassignedR55, 55), (.unassignedR56, 56), (.unassignedR57, 57), (.unassignedR58, 58), (.unassignedR59, 59),
   (.unassignedR60, 60), (.unassignedR61, 61), (.unassignedR62, 62)]

/-- All 55 of them (46_unrecognized.md R160). -/
def unassignedR : List ((RegIdx → RegIdx → RegIdx → Instr) × Nat) := unassignedLow ++ unassignedMiddle ++ unassignedHigh

/-- The number of a FormatR word with these fields (30_encoding.md R63), as a sum of its fields at their places. -/
def formatRNumber (opcode : Nat) (rd rs1 rs2 : RegIdx) : Nat := opcode * 512 + rd.val * 64 + rs1.val * 8 + rs2.val

/-- The number of a FormatI word with these fields (30_encoding.md R64), as a sum of its fields at their places. -/
def formatINumber (opcode : Nat) (reg : RegIdx) (imm : Nat) : Nat := 32768 + opcode * 8192 + reg.val * 1024 + imm

end Sys2Proof.Machine
end

