-- ==== Sys2Proof/Certificates/Slice0/Obligations.lean ====
section
/-! DEFINITION. The statements for the provers, each a rule of spec/ or what the rules together say. "The pc is in range"
means `s.pc.toNat < s.cfg.memorySize`. -/

open Sys2Proof Sys2Proof.Machine

/-! ### Encoding (30_encoding.md) -/

/-- 30_encoding.md R61: `extract` is the field of `length` bits from `start` up, the length clamped to 16. -/
def Obligations.ExtractIsFieldSlice : Prop :=
  ∀ (value : Word) (start : Fin 16) (length : Nat),
    (extract value start length).toNat = value.toNat / 2 ^ start.val % 2 ^ min length 16

/-- 95_test_vectors.md S1 to S3: a field of length 0 is 0, one of all bits is the value, and extracting a field again with
the same length gives it back. -/
def Obligations.ExtractIsIdempotent : Prop :=
  ∀ (value : Word) (start : Fin 16) (length : Nat),
    extract value start 0 = 0#16 ∧ (16 ≤ length → extract value 0 length = value) ∧
      extract (extract value start length) 0 length = extract value start length

/-- 30_encoding.md R62: the format is bit 15, FormatR for words below 0x8000 and FormatI for the others. -/
def Obligations.FormatIsBit15 : Prop :=
  ∀ w : Word, (extract w 15 1).toNat = w.toNat / 32768 ∧
    (extract w 15 1 = 0#16 ↔ ∃ f, classify w = .R f) ∧ (extract w 15 1 = 1#16 ↔ ∃ f, classify w = .I f) ∧
    ((∃ f, classify w = .R f) ↔ w.toNat ≤ 0x7FFF) ∧ ((∃ f, classify w = .I f) ↔ 0x8000 ≤ w.toNat)

/-- 30_encoding.md R63: the fields of a FormatR word, at their places. -/
def Obligations.FormatRFieldPlaces : Prop :=
  ∀ w : Word, w.toNat < 32768 → ∃ f : FormatR, classify w = .R f ∧ f.opcode.toNat = w.toNat / 512 ∧
    f.rd.val = w.toNat / 64 % 8 ∧ f.rs1.val = w.toNat / 8 % 8 ∧ f.rs2.val = w.toNat % 8

/-- 30_encoding.md R64: the fields of a FormatI word, at their places. -/
def Obligations.FormatIFieldPlaces : Prop :=
  ∀ w : Word, 32768 ≤ w.toNat → ∃ f : FormatI, classify w = .I f ∧ f.opcode.toNat = w.toNat / 8192 - 4 ∧
    f.reg.val = w.toNat / 1024 % 8 ∧ f.immediate.toNat = w.toNat % 1024

/-- 30_encoding.md R66: the encoders put each field at its place, and encoding what was decoded gives the word back. -/
def Obligations.EncodeOfDecode : Prop :=
  (∀ (opcode : BitVec 6) (rd rs1 rs2 : RegIdx),
    (encodeR opcode rd rs1 rs2).toNat = formatRNumber opcode.toNat rd rs1 rs2) ∧
  (∀ (opcode : BitVec 2) (reg : RegIdx) (imm : Word), imm.toNat < 1024 →
    (encodeI opcode reg imm).toNat = formatINumber opcode.toNat reg imm.toNat) ∧
  ∀ w : Word, (classify w).encode = w ∧ encode (decode w) = w

/-- Decoding the word of an instruction gives the instruction, for every instruction and every operand that can be
encoded, the ignored fields among them (30_encoding.md, from its rules on encoding and unused fields). -/
def Obligations.DecodeOfEncode : Prop := ∀ i : Instr, i.wellFormed = true → decode (encode i) = i

/-- Every word is the word of exactly one instruction, the one it decodes to (30_encoding.md section 1). -/
def Obligations.EachWordIsOneInstruction : Prop :=
  ∀ w : Word, (decode w).wellFormed = true ∧ ∀ i : Instr, i.wellFormed = true → (encode i = w ↔ i = decode w)

/-- A word carries the fixed bits of one row of the opcode table only, that of the instruction it decodes to
(30_encoding.md section 3). -/
def Obligations.EachWordMatchesOneRow : Prop :=
  ∀ (w : Word) (i : Instr), w &&& i.tableBits.2 = i.tableBits.1 ↔ (decode w).tableBits = i.tableBits

/-- Words of 95_test_vectors.md section 2.1 and what they stand for, one of each family. -/
def Obligations.SampleWordsDecode : Prop :=
  decode 0x024B#16 = .sub 1 1 3 ∧ decode 0x1EC8#16 = .load 3 1 0 ∧ decode 0x21FF#16 = .store 7 7 7 ∧
  decode 0x7E00#16 = .syscall 0 0 0 ∧ decode 0x9C05#16 = .jump 7 5#16 ∧ decode 0xA403#16 = .jumpCond 1 3#16 ∧
  decode 0xE405#16 = .mov 1 5#16 ∧ decode 0x7DFF#16 = .unassignedR62 7 7 7 ∧ decode 0xDFFF#16 = .unassignedI2 7 1023#16

/-- What a line of assembly decodes to: a field the line does not name is 0 (the spec's own choice, 92_eei_decisions.md
D9). -/
def Obligations.AssembledLinesDecode : Prop :=
  (∀ rd rs1 rs2 : RegIdx,
    decode (assemble (.add rd rs1 rs2)) = .add rd rs1 rs2 ∧ decode (assemble (.sub rd rs1 rs2)) = .sub rd rs1 rs2 ∧
    decode (assemble (.mul rd rs1 rs2)) = .mul rd rs1 rs2 ∧ decode (assemble (.div rd rs1 rs2)) = .div rd rs1 rs2 ∧
    decode (assemble (.cmpEqual rd rs1 rs2)) = .cmpEqual rd rs1 rs2 ∧
    decode (assemble (.cmpNeq rd rs1 rs2)) = .cmpNeq rd rs1 rs2 ∧
    decode (assemble (.load rd rs1)) = .load rd rs1 0 ∧ decode (assemble (.store rs1 rs2)) = .store 0 rs1 rs2) ∧
  assemble .syscall = 0x7E00#16 ∧
  (∀ (reg : RegIdx) (imm : Fin 1024),
    decode (assemble (.jump imm)) = .jump 0 (BitVec.ofNat 16 imm.val) ∧
    decode (assemble (.jumpCond reg imm)) = .jumpCond reg (BitVec.ofNat 16 imm.val) ∧
    decode (assemble (.mov reg imm)) = .mov reg (BitVec.ofNat 16 imm.val)) ∧
  ∀ n : Word, assemble (.word n) = n

/-! ### ALU instructions (41_alu.md) -/

/-- 41_alu.md R101: opcode 0 is `add`, and it changes rd alone, to the sum modulo 65536 of the old values. -/
def Obligations.AddResult : Prop :=
  (∀ rd rs1 rs2, decode (BitVec.ofNat 16 (formatRNumber 0 rd rs1 rs2)) = .add rd rs1 rs2) ∧
  ∀ (rd rs1 rs2 : RegIdx) (s : State), ∃ (t : State) (v : Word), exec (.add rd rs1 rs2) s = .next t ∧
    v.toNat = ((s.readReg rs1).toNat + (s.readReg rs2).toNat) % 65536 ∧ OnlyRegister s t rd v

/-- 41_alu.md R102: opcode 1 is `sub`, and it changes rd alone, to the difference modulo 65536 of the old values. -/
def Obligations.SubResult : Prop :=
  (∀ rd rs1 rs2, decode (BitVec.ofNat 16 (formatRNumber 1 rd rs1 rs2)) = .sub rd rs1 rs2) ∧
  ∀ (rd rs1 rs2 : RegIdx) (s : State), ∃ (t : State) (v : Word), exec (.sub rd rs1 rs2) s = .next t ∧
    (v.toNat : Int) = (((s.readReg rs1).toNat : Int) - ((s.readReg rs2).toNat : Int)) % 65536 ∧ OnlyRegister s t rd v

/-- 41_alu.md R103: opcode 2 is `mul`, and it changes rd alone, to the product modulo 65536 of the old values. -/
def Obligations.MulResult : Prop :=
  (∀ rd rs1 rs2, decode (BitVec.ofNat 16 (formatRNumber 2 rd rs1 rs2)) = .mul rd rs1 rs2) ∧
  ∀ (rd rs1 rs2 : RegIdx) (s : State), ∃ (t : State) (v : Word), exec (.mul rd rs1 rs2) s = .next t ∧
    v.toNat = ((s.readReg rs1).toNat * (s.readReg rs2).toNat) % 65536 ∧ OnlyRegister s t rd v

/-- Opcode 3 is `div`, and it changes rd alone, to the unsigned quotient of the old values, or to 0 for a divisor of 0, with
no fault and no warning. That the quotient is unsigned is the spec's own choice (92_eei_decisions.md D16). -/
def Obligations.DivResult : Prop :=
  (∀ rd rs1 rs2, decode (BitVec.ofNat 16 (formatRNumber 3 rd rs1 rs2)) = .div rd rs1 rs2) ∧
  ∀ (rd rs1 rs2 : RegIdx) (s : State), ∃ (t : State) (v : Word), exec (.div rd rs1 rs2) s = .next t ∧
    ((s.readReg rs2).toNat = 0 → v.toNat = 0) ∧
    ((s.readReg rs2).toNat ≠ 0 → v.toNat = (s.readReg rs1).toNat / (s.readReg rs2).toNat) ∧ OnlyRegister s t rd v

/-- 41_alu.md R105: opcode 4 is `cmp_equal`, and it changes rd alone, to 1 if the old values are equal and to 0 if not. -/
def Obligations.CmpEqualResult : Prop :=
  (∀ rd rs1 rs2, decode (BitVec.ofNat 16 (formatRNumber 4 rd rs1 rs2)) = .cmpEqual rd rs1 rs2) ∧
  ∀ (rd rs1 rs2 : RegIdx) (s : State), ∃ (t : State) (v : Word), exec (.cmpEqual rd rs1 rs2) s = .next t ∧
    (s.readReg rs1 = s.readReg rs2 → v.toNat = 1) ∧ (s.readReg rs1 ≠ s.readReg rs2 → v.toNat = 0) ∧
    OnlyRegister s t rd v

/-- 41_alu.md R106: opcode 5 is `cmp_neq`, and it changes rd alone, to 1 if the old values differ and to 0 if not. -/
def Obligations.CmpNeqResult : Prop :=
  (∀ rd rs1 rs2, decode (BitVec.ofNat 16 (formatRNumber 5 rd rs1 rs2)) = .cmpNeq rd rs1 rs2) ∧
  ∀ (rd rs1 rs2 : RegIdx) (s : State), ∃ (t : State) (v : Word), exec (.cmpNeq rd rs1 rs2) s = .next t ∧
    (s.readReg rs1 = s.readReg rs2 → v.toNat = 0) ∧ (s.readReg rs1 ≠ s.readReg rs2 → v.toNat = 1) ∧
    OnlyRegister s t rd v

/-! ### Memory, load and store (20_memory.md, 42_loadstore.md) -/

/-- The read primitive (20_memory.md section 1): the word at an index in range, OutOfBounds of the whole index out of
range, with no bit of the index masked. -/
def Obligations.MemReadPrimitive : Prop :=
  ∀ (s : State) (index : Word),
    (index.toNat < s.cfg.memorySize → s.memRead index = .ok (s.mem.read index.toNat)) ∧
    (s.cfg.memorySize ≤ index.toNat → s.memRead index = .error ⟨index⟩)

/-- The write primitive (20_memory.md section 1): exactly one cell changes, or the write fails with OutOfBounds of the whole
index. The premise is the memory's canonical form, part of the invariant. -/
def Obligations.MemWriteChangesOneCell : Prop :=
  ∀ (s : State) (index value : Word), s.mem.wf = true →
    (index.toNat < s.cfg.memorySize → ∃ t, s.memWrite index value = .ok t ∧ OnlyCell s t index.toNat value) ∧
    (s.cfg.memorySize ≤ index.toNat → s.memWrite index value = .error ⟨index⟩)

/-- Opcode 15 is `load`, whatever its rs2: in range it changes rd alone, to the word at the index in rs1; out of range it
raises LOAD_OUT_OF_RANGE with that index and writes no register (42_loadstore.md; the record is the spec's own choice,
92_eei_decisions.md D2). -/
def Obligations.LoadResult : Prop :=
  (∀ rd rs1 rs2, decode (BitVec.ofNat 16 (formatRNumber 15 rd rs1 rs2)) = .load rd rs1 rs2) ∧
  ∀ (rd rs1 rs2 : RegIdx) (s : State),
    ((s.readReg rs1).toNat < s.cfg.memorySize → ∃ t, exec (.load rd rs1 rs2) s = .next t ∧
      OnlyRegister s t rd (s.mem.read (s.readReg rs1).toNat)) ∧
    (s.cfg.memorySize ≤ (s.readReg rs1).toNat → ∃ t, exec (.load rd rs1 rs2) s = .next t ∧
      Faults s t .loadOutOfRange (s.readReg rs1).toNat)

/-- Opcode 16 is `store`, whatever its rd: in range it changes the cell at the index in rs1 alone, to the value of rs2; out of
range it raises STORE_OUT_OF_RANGE with that index and writes no cell (42_loadstore.md; the record is the spec's own choice,
92_eei_decisions.md D2). The premise is the memory's canonical form, part of the invariant. -/
def Obligations.StoreResult : Prop :=
  (∀ rd rs1 rs2, decode (BitVec.ofNat 16 (formatRNumber 16 rd rs1 rs2)) = .store rd rs1 rs2) ∧
  ∀ (rd rs1 rs2 : RegIdx) (s : State), s.mem.wf = true →
    ((s.readReg rs1).toNat < s.cfg.memorySize → ∃ t, exec (.store rd rs1 rs2) s = .next t ∧
      OnlyCell s t (s.readReg rs1).toNat (s.readReg rs2)) ∧
    (s.cfg.memorySize ≤ (s.readReg rs1).toNat → ∃ t, exec (.store rd rs1 rs2) s = .next t ∧
      Faults s t .storeOutOfRange (s.readReg rs1).toNat)

/-- A store to the next index is what the next cycle fetches and runs (20_memory.md section 4, an inference the spec marks as
derived). The pc of the store is at most 65534 because the next index is in the memory of a valid configuration. -/
def Obligations.StoreSeenByNextFetch : Prop :=
  ∀ (s : State) (rd rs1 rs2 : RegIdx), s.cfg.Valid → s.mem.wf = true → s.run = .running → s.cycles < s.cfg.cycleLimit →
    s.pc.toNat + 1 < s.cfg.memorySize → decode (s.mem.read s.pc.toNat) = .store rd rs1 rs2 →
    (s.readReg rs1).toNat = s.pc.toNat + 1 →
    ∃ t, step s = .next t ∧ t.run = .running ∧ t.pc.toNat = s.pc.toNat + 1 ∧ t.mem.read t.pc.toNat = s.readReg rs2 ∧
      step t = finishCycle (exec (decode (s.readReg rs2)) t.advancePc)

/-! ### syscall, jumps, mov, unassigned opcodes -/

/-- Opcode 63 is `syscall`, whatever its fields: with R0 = 0 the run becomes Halted and nothing else changes; with any other
R0 it warns with that value and nothing else changes (43_syscall.md; that the whole of R0 is the service number and what the
warning records are the spec's own choices, 92_eei_decisions.md D13 and D2). -/
def Obligations.SyscallResult : Prop :=
  (∀ rd rs1 rs2, decode (BitVec.ofNat 16 (formatRNumber 63 rd rs1 rs2)) = .syscall rd rs1 rs2) ∧
  ∀ (rd rs1 rs2 : RegIdx) (s : State),
    (s.readReg 0 = 0#16 → ∃ t, exec (.syscall rd rs1 rs2) s = .next t ∧ OnlyRunAndLog s t .halted []) ∧
    (s.readReg 0 ≠ 0#16 → ∃ t, exec (.syscall rd rs1 rs2) s = .next t ∧
      Warns s t .unimplementedService (s.readReg 0).toNat)

/-- FormatI opcode 0 is `jump`, whatever its reg: a target in range becomes the pc and nothing else changes; one out of range
raises JUMP_TARGET_OUT_OF_RANGE with the target and the pc keeps its value (44_jump.md; the record is the spec's own choice,
92_eei_decisions.md D2). -/
def Obligations.JumpResult : Prop :=
  (∀ (reg : RegIdx) (imm : Word), imm.toNat < 1024 →
    decode (BitVec.ofNat 16 (formatINumber 0 reg imm.toNat)) = .jump reg imm) ∧
  ∀ (reg : RegIdx) (imm : Word) (s : State),
    (imm.toNat < s.cfg.memorySize → ∃ t, exec (.jump reg imm) s = .next t ∧ OnlyPc s t imm) ∧
    (s.cfg.memorySize ≤ imm.toNat → ∃ t, exec (.jump reg imm) s = .next t ∧
      Faults s t .jumpTargetOutOfRange imm.toNat)

/-- FormatI opcode 1 is `jump_cond`: with its register not 0 it does what `jump` does; with its register 0 nothing changes,
whatever the target (44_jump.md; the record is the spec's own choice, 92_eei_decisions.md D2). -/
def Obligations.JumpCondResult : Prop :=
  (∀ (reg : RegIdx) (imm : Word), imm.toNat < 1024 →
    decode (BitVec.ofNat 16 (formatINumber 1 reg imm.toNat)) = .jumpCond reg imm) ∧
  ∀ (reg : RegIdx) (imm : Word) (s : State),
    (s.readReg reg ≠ 0#16 → imm.toNat < s.cfg.memorySize → ∃ t, exec (.jumpCond reg imm) s = .next t ∧ OnlyPc s t imm) ∧
    (s.readReg reg ≠ 0#16 → s.cfg.memorySize ≤ imm.toNat → ∃ t, exec (.jumpCond reg imm) s = .next t ∧
      Faults s t .jumpTargetOutOfRange imm.toNat) ∧
    (s.readReg reg = 0#16 → ∃ t, exec (.jumpCond reg imm) s = .next t ∧ SameState s t)

/-- 45_mov.md R150: FormatI opcode 3 is `mov`, and it changes reg alone, to the zero-extended immediate, so that bits 15..10
of the register are 0. -/
def Obligations.MovResult : Prop :=
  ∀ (reg : RegIdx) (imm : Word) (s : State), imm.toNat < 1024 →
    decode (BitVec.ofNat 16 (formatINumber 3 reg imm.toNat)) = .mov reg imm ∧
    ∃ t, exec (.mov reg imm) s = .next t ∧ OnlyRegister s t reg imm ∧ (t.readReg reg).toNat < 1024

/-- The FormatR opcodes 6 to 14 and 17 to 62 are the unassigned ones: each warns UNRECOGNIZED_OPCODE_R with its opcode and
changes nothing else, whatever its fields (46_unrecognized.md; what the warning records is the spec's own choice,
92_eei_decisions.md D2). -/
def Obligations.UnassignedRIsWarning : Prop :=
  unassignedR.map Prod.snd = List.range' 6 9 ++ List.range' 17 46 ∧
  ∀ p ∈ unassignedR, ∀ rd rs1 rs2 : RegIdx,
    decode (BitVec.ofNat 16 (formatRNumber p.2 rd rs1 rs2)) = p.1 rd rs1 rs2 ∧
    ∀ s : State, ∃ t, exec (p.1 rd rs1 rs2) s = .next t ∧ Warns s t .unrecognizedOpcodeR p.2

/-- FormatI opcode 2 is unassigned: it warns UNRECOGNIZED_OPCODE_I with 2 and changes nothing else, whatever its fields
(46_unrecognized.md; what the warning records is the spec's own choice, 92_eei_decisions.md D2). -/
def Obligations.UnassignedIIsWarning : Prop :=
  (∀ (reg : RegIdx) (imm : Word), imm.toNat < 1024 →
    decode (BitVec.ofNat 16 (formatINumber 2 reg imm.toNat)) = .unassignedI2 reg imm) ∧
  ∀ (reg : RegIdx) (imm : Word) (s : State), ∃ t, exec (.unassignedI2 reg imm) s = .next t ∧
    Warns s t .unrecognizedOpcodeI 2

/-- The fields an instruction does not use have no effect (30_encoding.md section 2, the spec's own choice,
92_eei_decisions.md D12). -/
def Obligations.UnusedFieldsIgnored : Prop :=
  ∀ (a b c a' b' c' : RegIdx) (imm : Word) (s : State),
    exec (.load a b c) s = exec (.load a b c') s ∧ exec (.store a b c) s = exec (.store a' b c) s ∧
    exec (.syscall a b c) s = exec (.syscall a' b' c') s ∧ exec (.jump a imm) s = exec (.jump a' imm) s ∧
    (∀ p ∈ unassignedR, exec (p.1 a b c) s = exec (p.1 a' b' c') s) ∧
    ∀ imm' : Word, exec (.unassignedI2 a imm) s = exec (.unassignedI2 a' imm') s

/-! ### What an instruction can change -/

/-- A register changes only by an instruction whose write port names it (30_encoding.md section 2, 10_state.md section 1). -/
def Obligations.OnlyDestinationRegisterChanges : Prop :=
  ∀ (i : Instr) (s t : State) (r : RegIdx), exec i s = .next t → t.readReg r ≠ s.readReg r → destination i = some r

/-- A memory cell changes only by a `store` that names it, and to the value stored (20_memory.md sections 1 and 4). -/
def Obligations.OnlyStoreChangesMemory : Prop :=
  ∀ (i : Instr) (s t : State) (a : Nat), s.mem.wf = true → exec i s = .next t → t.mem.read a ≠ s.mem.read a →
    ∃ rd rs1 rs2, i = .store rd rs1 rs2 ∧ a = (s.readReg rs1).toNat ∧ a < s.cfg.memorySize ∧
      t.mem.read a = s.readReg rs2

/-- Execute writes the pc only in a `jump`, or a `jump_cond` that is taken, and only with a target in range (10_state.md
section 2). -/
def Obligations.OnlyJumpsChangePc : Prop :=
  ∀ (i : Instr) (s t : State), exec i s = .next t → t.pc ≠ s.pc →
    ∃ reg imm, (i = .jump reg imm ∨ (i = .jumpCond reg imm ∧ s.readReg reg ≠ 0#16)) ∧ t.pc = imm ∧
      imm.toNat < s.cfg.memorySize

/-- No instruction reads the cycle counter or the log, none writes the counter, and none appends more than one event
(10_state.md section 3, 60_exceptions.md section 3). That none writes the configuration is the model's choice, since the
configuration is a field of its State (DESIGN CHOICE, notes/assumptions/2.md). -/
def Obligations.CounterAndLogNotRead : Prop :=
  ∀ (i : Instr) (s : State) (n : Nat) (d : List DiagEvent), ∃ t new, exec i s = .next t ∧ t.cfg = s.cfg ∧
    t.cycles = s.cycles ∧ t.diag = s.diag ++ new ∧ new.length ≤ 1 ∧
    exec i { s with cycles := n, diag := d } = .next { t with cycles := n, diag := d ++ new }

/-! ### The cycle (40_engine_cycle.md) -/

/-- A step at a running state with its pc in range is the decoded instruction's execute after the increment, then the count
and the ceiling check (40_engine_cycle.md section 2; that the check is made only in a run still Running is the spec's own
choice, 92_eei_decisions.md D3). -/
def Obligations.StepRunsDecodedInstruction : Prop :=
  ∀ (s : State) (i : Instr), s.run = .running → s.pc.toNat < s.cfg.memorySize → decode (s.mem.read s.pc.toNat) = i →
    i.wellFormed = true ∧ ∃ u, exec i { s with pc := s.pc + 1#16 } = .next u ∧
      step s = .next (if u.run = .running ∧ u.cfg.cycleLimit < u.cycles + 1 then
          { u with
            cycles := u.cycles + 1
            run := .faulted ⟨.resourceExhaustion, u.cfg.cycleLimit⟩
            diag := u.diag ++ [.fault .resourceExhaustion u.cfg.cycleLimit] }
        else { u with cycles := u.cycles + 1 })

/-- Every step answers a next state. Of a Running state 40_engine_cycle.md section 2 says that the step is a total function.
That an iteration in a terminal state answers a next state too is the model's choice (DEDUCED, notes/assumptions/1.md), and so
is that a fault of the engine is a next state, none of the model's (DEDUCED, notes/assumptions/7.md). -/
def Obligations.StepAlwaysAnswers : Prop := ∀ s : State, ∃ t, step s = .next t

/-- A pc out of range faults before the fetch, with the pc as its value; nothing else changes, the counter neither
(40_engine_cycle.md section 1; not to count is the spec's own choice, 92_eei_decisions.md D4, and so is the record, D2). -/
def Obligations.PcOutOfRangeFaults : Prop :=
  ∀ s : State, s.run = .running → s.cfg.memorySize ≤ s.pc.toNat →
    ∃ t, step s = .next t ∧ Faults s t .pcOutOfRange s.pc.toNat

/-- 40_engine_cycle.md R83: the pc is one more before decode and execute, and the increment never wraps. -/
def Obligations.PcIncrementNeverWraps : Prop :=
  ∀ s : State, s.cfg.Valid → s.run = .running → s.pc.toNat < s.cfg.memorySize →
    ∃ u : State, u.pc.toNat = s.pc.toNat + 1 ∧ u.pc.toNat ≤ s.cfg.memorySize ∧ u.pc.toNat ≤ 32768 ∧
      u = { s with pc := u.pc } ∧ step s = finishCycle (exec (decode (s.mem.read s.pc.toNat)) u)

/-- 40_engine_cycle.md R86: the counter is one more after every execute, whatever it did. -/
def Obligations.EveryExecuteIsCounted : Prop :=
  ∀ s : State, s.run = .running → s.pc.toNat < s.cfg.memorySize → ∃ t, step s = .next t ∧ t.cycles = s.cycles + 1

/-- The ceiling fault comes in the cycle above the ceiling, never earlier, and only to a run that execute left Running; it
keeps what execute did (40_engine_cycle.md section 1; the order is the spec's own choice, 92_eei_decisions.md D3). -/
def Obligations.CeilingOnlyWhileRunning : Prop :=
  ∀ s u : State, s.run = .running → s.pc.toNat < s.cfg.memorySize →
    exec (decode (s.mem.read s.pc.toNat)) s.advancePc = .next u →
    ∃ t, step s = .next t ∧ t.pc = u.pc ∧ (∀ r, t.readReg r = u.readReg r) ∧ (∀ a, t.mem.read a = u.mem.read a) ∧
      (u.run ≠ .running → t.run = u.run ∧ t.diag = u.diag) ∧
      (u.run = .running → s.cycles < s.cfg.cycleLimit → t.run = .running ∧ t.diag = u.diag) ∧
      (u.run = .running → s.cfg.cycleLimit ≤ s.cycles →
        t.run = .faulted ⟨.resourceExhaustion, s.cfg.cycleLimit⟩ ∧
        t.diag = u.diag ++ [.fault .resourceExhaustion s.cfg.cycleLimit])

/-- In a terminal state the engine performs no step: however many iterations are asked for, every part of the state keeps its
value (40_engine_cycle.md section 2). That such an iteration answers the same state is the model's choice of how to show it
(notes/assumptions/1.md). -/
def Obligations.TerminalStatesAreFrozen : Prop :=
  ∀ (s : State) (n : Nat), s.run.terminal = true → Sys2Proof.core.run n s = .next s

/-- A run becomes Halted only by a `syscall` with R0 = 0 (10_state.md section 3; that the whole of R0 counts is the spec's own
choice, 92_eei_decisions.md D13), and the state then differs from the one before in the pc, the counter and the run only. -/
def Obligations.HaltedOnlyBySyscallZero : Prop :=
  ∀ s t : State, s.run = .running → step s = .next t → t.run = .halted →
    (∃ rd rs1 rs2, decode (s.mem.read s.pc.toNat) = .syscall rd rs1 rs2) ∧ s.readReg 0 = 0#16 ∧
    t = { s with pc := s.pc + 1#16, cycles := s.cycles + 1, run := .halted }

/-- Faults are precise (60_exceptions.md section 1): an AddressFault leaves every register and memory cell as it was and adds
its one event; PC_OUT_OF_RANGE leaves the pc and the counter too, the others have the pc one above the faulting instruction
and the cycle counted. The causes, the count and the pc are the spec's own choices (92_eei_decisions.md D2, D4, D7). -/
def Obligations.AddressFaultsArePrecise : Prop :=
  ∀ (s t : State) (r : FaultRecord), s.run = .running → step s = .next t → t.run = .faulted r →
    r.cause ≠ .resourceExhaustion →
    (∀ x, t.readReg x = s.readReg x) ∧ t.mem = s.mem ∧ t.diag = s.diag ++ [.fault r.cause r.value] ∧
    s.cfg.memorySize ≤ r.value ∧
    (r.cause = .pcOutOfRange → r.value = s.pc.toNat ∧ t.pc = s.pc ∧ t.cycles = s.cycles) ∧
    (r.cause ≠ .pcOutOfRange → t.pc = s.pc + 1#16 ∧ t.cycles = s.cycles + 1) ∧
    (r.cause = .loadOutOfRange → ∃ rd rs1 rs2, decode (s.mem.read s.pc.toNat) = .load rd rs1 rs2 ∧
      r.value = (s.readReg rs1).toNat) ∧
    (r.cause = .storeOutOfRange → ∃ rd rs1 rs2, decode (s.mem.read s.pc.toNat) = .store rd rs1 rs2 ∧
      r.value = (s.readReg rs1).toNat) ∧
    (r.cause = .jumpTargetOutOfRange → ∃ reg imm, r.value = imm.toNat ∧
      (decode (s.mem.read s.pc.toNat) = .jump reg imm ∨
        (decode (s.mem.read s.pc.toNat) = .jumpCond reg imm ∧ s.readReg reg ≠ 0#16)))

/-- The events of one iteration (10_state.md section 3, 60_exceptions.md section 3): the log only grows, by nothing, by one
event, or by a warning and then the ceiling fault (the order is the spec's own choice, 92_eei_decisions.md D3). -/
def Obligations.EventsOfOneIteration : Prop :=
  ∀ s t : State, step s = .next t →
    t.diag = s.diag ∨ (s.run = .running ∧ ∃ e, t.diag = s.diag ++ [e]) ∨
    (s.run = .running ∧ ∃ kind value, t.diag = s.diag ++
      [.warning kind value, .fault .resourceExhaustion s.cfg.cycleLimit])

/-! ### Invariants and whole runs -/

/-- Every step keeps the invariant, from any state that has it: the configuration is valid, the memory is in canonical form
and inside its size, the pc is at most MEMORY_SIZE, the counter at most CYCLE_LIMIT + 1 and at most CYCLE_LIMIT while
Running, a fault record is one that its cause can have, and the log holds the record's fault last and no other. -/
def Obligations.StepKeepsInvariant : Prop := ∀ s t : State, Inv s → step s = .next t → Inv t

/-- The state after reset has the invariant, for every valid configuration, every image and either HAS_WORDS, and
State.reset has it. -/
def Obligations.ResetHasInvariant : Prop :=
  Inv State.reset ∧ ∀ (cfg : Config) (image : List Word) (hasWords : Bool), cfg.Valid →
    Inv (State.resetFrom cfg image hasWords)

/-- Every run ends: from any state, as many iterations as are left to the ceiling, and one more, end in Halted or Faulted
(40_engine_cycle.md section 3, an inference the spec marks as derived, and made there of the reset state). For iterations past
the end of the run it rests on the model's choice that a terminal state answers itself (DEDUCED, notes/assumptions/1.md). -/
def Obligations.EveryRunEndsByTheCeiling : Prop :=
  ∀ (s : State) (n : Nat), 0 < n → s.cfg.cycleLimit + 1 ≤ s.cycles + n →
    ∃ t, Sys2Proof.core.run n s = .next t ∧ t.run.terminal = true ∧ t.cycles ≤ max (s.cycles + 1) (s.cfg.cycleLimit + 1)

/-- With the standard configuration every step keeps what rules out two of the five causes (40_engine_cycle.md section 3, an
inference the spec marks as derived): the pc is at most 1023 above the counter, and the run has neither fault. -/
def Obligations.StandardStepKeepsPcBound : Prop := ∀ s t : State, InvStandard s → step s = .next t → InvStandard t

/-- With the standard configuration no run of any image raises PC_OUT_OF_RANGE or JUMP_TARGET_OUT_OF_RANGE
(40_engine_cycle.md section 3, an inference the spec marks as derived). For iterations past the end of the run it rests on the
model's choice that a terminal state answers itself (DEDUCED, notes/assumptions/1.md). -/
def Obligations.TwoCausesNeverOccur : Prop :=
  ∀ (image : List Word) (hasWords : Bool) (n : Nat),
    ∃ t, Sys2Proof.core.run n (State.resetFrom Config.standard image hasWords) = .next t ∧
      ∀ v, t.run ≠ .faulted ⟨.pcOutOfRange, v⟩ ∧ t.run ≠ .faulted ⟨.jumpTargetOutOfRange, v⟩

/-! ### Reset and the observer -/

/-- Every register reads 0 after reset, whatever the image, and it still reads 0 after any number of iterations in which no
instruction run names it as its destination (10_state.md section 1). For iterations past the end of the run it rests on the
model's choice that a terminal state answers itself (DEDUCED, notes/assumptions/1.md). -/
def Obligations.RegistersZeroAtReset : Prop :=
  ∀ (cfg : Config) (image : List Word) (hasWords : Bool) (r : RegIdx),
    (State.resetFrom cfg image hasWords).readReg r = 0#16 ∧ State.reset.readReg r = 0#16 ∧
    ∀ n : Nat,
      (∀ (k : Nat) (u : State), k < n → Sys2Proof.core.run k (State.resetFrom cfg image hasWords) = .next u →
        u.run = .running → u.pc.toNat < u.cfg.memorySize → destination (decode (u.mem.read u.pc.toNat)) ≠ some r) →
      ∃ t : State, Sys2Proof.core.run n (State.resetFrom cfg image hasWords) = .next t ∧ t.readReg r = 0#16

/-- 10_state.md R28: the pc after reset is RESET_PC, which is 1 in the standard configuration. -/
def Obligations.PcAtReset : Prop :=
  (∀ (cfg : Config) (image : List Word) (hasWords : Bool), cfg.Valid →
    (State.resetFrom cfg image hasWords).pc.toNat = cfg.resetPc) ∧
  (∀ (image : List Word) (hasWords : Bool), (State.resetFrom Config.standard image hasWords).pc = 1#16) ∧
  State.reset.pc = 1#16

/-- The memory after reset holds word k of the image at index k and 0 everywhere else, and the image's words beyond the
memory's size nowhere; the run is Running or Halted by HAS_WORDS, the counter 0 and the log empty (70_reset_and_hazards.md
section 1; Halted and the counter's 0 are the spec's own choices, 92_eei_decisions.md D6 and D5). -/
def Obligations.ResetHoldsImage : Prop :=
  ∀ (cfg : Config) (image : List Word) (hasWords : Bool),
    (∀ k, (State.resetFrom cfg image hasWords).mem.read k = if k < cfg.memorySize then image.getD k 0#16 else 0#16) ∧
    (State.resetFrom cfg image hasWords).run = (if hasWords then .running else .halted) ∧
    (State.resetFrom cfg image hasWords).cycles = 0 ∧ (State.resetFrom cfg image hasWords).diag = []

/-- A snapshot is taken at the start of every iteration that begins Running, the one that fails its PC check too, with the pc,
twice the pc, and the registers; a terminal state gives none, so a reset without words gives none at all (60_exceptions.md
section 7, 70_reset_and_hazards.md section 1; the moment and the Halted reset are the spec's own choices, 92_eei_decisions.md
D18 and D6). -/
def Obligations.ObserverSnapshots : Prop :=
  (∀ s : State, s.run = .running → ∀ n, ∃ t rest, step s = .next t ∧ rest = observations n t ∧
    observations (n + 1) s = { pc := s.pc, pcByte := 2 * s.pc.toNat, regs := s.regs } :: rest) ∧
  (∀ (s : State) (n : Nat), s.run.terminal = true → observations n s = []) ∧
  ∀ (cfg : Config) (image : List Word) (n : Nat), observations n (State.resetFrom cfg image false) = []
end

