-- ==== Sys2Proof/Laws/Memory.lean ====
section
/-! SUPPORT. The memory's basic laws: a read after a write, and that every memory operation keeps the canonical form. -/

namespace Sys2Proof.Machine

@[simp] theorem Memory.read_nil (i : Nat) : Memory.read [] i = 0#16 := rfl

theorem Memory.read_cons (a : Nat) (v : Word) (m : Memory) (i : Nat) :
    Memory.read ((a, v) :: m) i = if a = i then v else Memory.read m i := rfl

theorem Memory.wfFrom_cons (lo a : Nat) (v : Word) (m : Memory) :
    Memory.wfFrom lo ((a, v) :: m) = true ↔ lo ≤ a ∧ v ≠ 0#16 ∧ Memory.wfFrom (a + 1) m = true := by
  simp only [Memory.wfFrom, Bool.and_eq_true, and_assoc]
  exact ⟨fun h => ⟨of_decide_eq_true h.1, of_decide_eq_true h.2.1, h.2.2⟩,
    fun h => ⟨decide_eq_true h.1, decide_eq_true h.2.1, h.2.2⟩⟩

/-- A lower bound may be lowered. -/
theorem Memory.wfFrom_mono {lo lo' : Nat} (h : lo' ≤ lo) :
    ∀ {m : Memory}, Memory.wfFrom lo m = true → Memory.wfFrom lo' m = true
  | [], _ => rfl
  | (a, v) :: m, hm => by
    rw [Memory.wfFrom_cons] at hm ⊢
    exact ⟨h.trans hm.1, hm.2⟩

/-- Below the first listed index a memory reads blank. -/
theorem Memory.read_below : ∀ {m : Memory} {lo i : Nat}, Memory.wfFrom lo m = true → i < lo → m.read i = 0#16
  | [], _, _, _, _ => rfl
  | (a, v) :: m, lo, i, hm, hi => by
    rw [Memory.wfFrom_cons] at hm
    rw [Memory.read_cons, if_neg (by omega)]
    exact Memory.read_below hm.2.2 (by omega)

/-- What a memory with one more cell in front reads as, if it read blank there. -/
theorem Memory.read_putCell (m : Memory) (i j : Nat) (v : Word) (h : m.read i = 0#16) :
    (Memory.putCell i v m).read j = if i = j then v else m.read j := by
  unfold Memory.putCell Memory.blank
  split
  · next hv => subst hv; split
               · next hij => rw [← hij, h]
               · rfl
  · rw [Memory.read_cons]

/-- Read after write, in one lemma (20_memory.md R42, R50): the written index reads the value, any other as before. -/
theorem Memory.read_write : ∀ {m : Memory} {lo : Nat}, Memory.wfFrom lo m = true → ∀ (i : Nat) (v : Word) (j : Nat),
    (m.write i v).read j = if i = j then v else m.read j
  | [], _, _, i, v, j => Memory.read_putCell [] i j v rfl
  | (a, w) :: m, lo, hm, i, v, j => by
    have hm' := (Memory.wfFrom_cons lo a w m).1 hm
    unfold Memory.write
    split
    · next hlt =>
      refine Memory.read_putCell _ i j v ?_
      rw [Memory.read_cons, if_neg (by omega)]
      exact Memory.read_below hm'.2.2 (by omega)
    · split
      · next heq =>
        subst heq
        rw [Memory.read_putCell m i j v (Memory.read_below hm'.2.2 (by omega)), Memory.read_cons]
        by_cases h : i = j <;> simp [h]
      · next hne =>
        rw [Memory.read_cons, Memory.read_cons, Memory.read_write hm'.2.2 i v j]
        by_cases h : a = j
        · subst h; rw [if_pos rfl, if_pos rfl, if_neg (by omega)]
        · rw [if_neg h, if_neg h]

theorem Memory.read_write_same {m : Memory} (h : m.wf = true) (i : Nat) (v : Word) : (m.write i v).read i = v := by
  rw [Memory.read_write h, if_pos rfl]

theorem Memory.read_write_other {m : Memory} (h : m.wf = true) {i j : Nat} (v : Word) (hij : i ≠ j) :
    (m.write i v).read j = m.read j := by
  rw [Memory.read_write h, if_neg hij]

/-- A cell in front keeps the form, if its index is below the rest. -/
theorem Memory.wfFrom_putCell {lo i : Nat} {m : Memory} (v : Word) (hlo : lo ≤ i) (h : Memory.wfFrom (i + 1) m = true) :
    Memory.wfFrom lo (Memory.putCell i v m) = true := by
  unfold Memory.putCell
  split
  · exact Memory.wfFrom_mono (by omega) h
  · next hv => exact (Memory.wfFrom_cons lo i v m).2 ⟨hlo, hv, h⟩

/-- A write keeps the form above a lower bound. -/
theorem Memory.wfFrom_write : ∀ {m : Memory} {lo : Nat}, Memory.wfFrom lo m = true → ∀ (i : Nat) (v : Word), lo ≤ i →
    Memory.wfFrom lo (m.write i v) = true
  | [], _, _, _, v, hi => Memory.wfFrom_putCell v hi rfl
  | (a, w) :: m, lo, hm, i, v, hi => by
    have hm' := (Memory.wfFrom_cons lo a w m).1 hm
    unfold Memory.write
    split
    · next hlt => exact Memory.wfFrom_putCell v hi ((Memory.wfFrom_cons _ a w m).2 ⟨hlt, hm'.2⟩)
    · split
      · next heq => subst heq; exact Memory.wfFrom_putCell v hi hm'.2.2
      · next hne => exact (Memory.wfFrom_cons lo a w _).2 ⟨hm'.1, hm'.2.1, Memory.wfFrom_write hm'.2.2 i v (by omega)⟩

/-- A write keeps the canonical form. -/
theorem Memory.wf_write {m : Memory} (h : m.wf = true) (i : Nat) (v : Word) : (m.write i v).wf = true :=
  Memory.wfFrom_write h i v (Nat.zero_le i)

theorem Memory.within_cons (size a : Nat) (v : Word) (m : Memory) :
    Memory.within size ((a, v) :: m) = true ↔ a < size ∧ Memory.within size m = true := by
  simp [Memory.within]

theorem Memory.within_putCell {size i : Nat} {m : Memory} (v : Word) (hi : i < size) (h : m.within size = true) :
    (Memory.putCell i v m).within size = true := by
  unfold Memory.putCell
  split
  · exact h
  · exact (Memory.within_cons size i v m).2 ⟨hi, h⟩

/-- A write below `size` lists no index that is not below `size`. -/
theorem Memory.within_write {size : Nat} : ∀ {m : Memory}, m.within size = true → ∀ (i : Nat) (v : Word), i < size →
    (m.write i v).within size = true
  | [], _, _, v, hi => Memory.within_putCell v hi rfl
  | (a, w) :: m, hm, i, v, hi => by
    have hm' := (Memory.within_cons size a w m).1 hm
    unfold Memory.write
    split
    · exact Memory.within_putCell v hi hm
    · split
      · exact Memory.within_putCell v hi hm'.2
      · exact (Memory.within_cons size a w _).2 ⟨hm'.1, Memory.within_write hm'.2 i v hi⟩

/-- Beyond `size` a memory within `size` reads blank. -/
theorem Memory.read_beyond {size : Nat} : ∀ {m : Memory}, m.within size = true → ∀ {i : Nat}, size ≤ i → m.read i = 0#16
  | [], _, _, _ => rfl
  | (a, w) :: m, hm, i, hi => by
    have hm' := (Memory.within_cons size a w m).1 hm
    rw [Memory.read_cons, if_neg (by omega)]
    exact Memory.read_beyond hm'.2 hi

/-- An image's memory has the form, from its first index on. -/
theorem Memory.wfFrom_ofImageFrom : ∀ (k : Nat) (image : List Word), Memory.wfFrom k (Memory.ofImageFrom k image) = true
  | _, [] => rfl
  | k, w :: ws => Memory.wfFrom_putCell w (Nat.le_refl k) (Memory.wfFrom_ofImageFrom (k + 1) ws)

theorem Memory.wf_ofImage (size : Nat) (image : List Word) : (Memory.ofImage size image).wf = true :=
  Memory.wfFrom_ofImageFrom 0 _

theorem Memory.within_ofImageFrom (size : Nat) : ∀ (k : Nat) (image : List Word), k + image.length ≤ size →
    (Memory.ofImageFrom k image).within size = true
  | _, [], _ => rfl
  | k, w :: ws, h => by
    simp only [List.length_cons] at h
    exact Memory.within_putCell w (by omega) (Memory.within_ofImageFrom size (k + 1) ws (by omega))

theorem Memory.within_ofImage (size : Nat) (image : List Word) : (Memory.ofImage size image).within size = true :=
  Memory.within_ofImageFrom size 0 _ (by simp)

end Sys2Proof.Machine
end

