-- ==== Sys2Proof/Laws/State.lean ====
section
/-! SUPPORT. One lemma per field per update of the state, so that no later proof unfolds a record update. -/

namespace Sys2Proof.Machine

@[simp] theorem State.writeReg_cfg (s : State) (r : RegIdx) (v : Word) : (s.writeReg r v).cfg = s.cfg := rfl
@[simp] theorem State.writeReg_regs (s : State) (r : RegIdx) (v : Word) : (s.writeReg r v).regs = s.regs.set r.val v r.isLt := rfl
@[simp] theorem State.writeReg_pc (s : State) (r : RegIdx) (v : Word) : (s.writeReg r v).pc = s.pc := rfl
@[simp] theorem State.writeReg_mem (s : State) (r : RegIdx) (v : Word) : (s.writeReg r v).mem = s.mem := rfl
@[simp] theorem State.writeReg_run (s : State) (r : RegIdx) (v : Word) : (s.writeReg r v).run = s.run := rfl
@[simp] theorem State.writeReg_cycles (s : State) (r : RegIdx) (v : Word) : (s.writeReg r v).cycles = s.cycles := rfl
@[simp] theorem State.writeReg_diag (s : State) (r : RegIdx) (v : Word) : (s.writeReg r v).diag = s.diag := rfl

@[simp] theorem State.setPc_cfg (s : State) (target : Word) : (s.setPc target).cfg = s.cfg := rfl
@[simp] theorem State.setPc_regs (s : State) (target : Word) : (s.setPc target).regs = s.regs := rfl
@[simp] theorem State.setPc_pc (s : State) (target : Word) : (s.setPc target).pc = target := rfl
@[simp] theorem State.setPc_mem (s : State) (target : Word) : (s.setPc target).mem = s.mem := rfl
@[simp] theorem State.setPc_run (s : State) (target : Word) : (s.setPc target).run = s.run := rfl
@[simp] theorem State.setPc_cycles (s : State) (target : Word) : (s.setPc target).cycles = s.cycles := rfl
@[simp] theorem State.setPc_diag (s : State) (target : Word) : (s.setPc target).diag = s.diag := rfl

@[simp] theorem State.advancePc_cfg (s : State) : (s.advancePc).cfg = s.cfg := rfl
@[simp] theorem State.advancePc_regs (s : State) : (s.advancePc).regs = s.regs := rfl
@[simp] theorem State.advancePc_pc (s : State) : (s.advancePc).pc = s.pc + 1 := rfl
@[simp] theorem State.advancePc_mem (s : State) : (s.advancePc).mem = s.mem := rfl
@[simp] theorem State.advancePc_run (s : State) : (s.advancePc).run = s.run := rfl
@[simp] theorem State.advancePc_cycles (s : State) : (s.advancePc).cycles = s.cycles := rfl
@[simp] theorem State.advancePc_diag (s : State) : (s.advancePc).diag = s.diag := rfl

@[simp] theorem State.setCell_cfg (s : State) (i v : Word) : (s.setCell i v).cfg = s.cfg := rfl
@[simp] theorem State.setCell_regs (s : State) (i v : Word) : (s.setCell i v).regs = s.regs := rfl
@[simp] theorem State.setCell_pc (s : State) (i v : Word) : (s.setCell i v).pc = s.pc := rfl
@[simp] theorem State.setCell_mem (s : State) (i v : Word) : (s.setCell i v).mem = s.mem.write i.toNat v := rfl
@[simp] theorem State.setCell_run (s : State) (i v : Word) : (s.setCell i v).run = s.run := rfl
@[simp] theorem State.setCell_cycles (s : State) (i v : Word) : (s.setCell i v).cycles = s.cycles := rfl
@[simp] theorem State.setCell_diag (s : State) (i v : Word) : (s.setCell i v).diag = s.diag := rfl

@[simp] theorem State.raise_cfg (s : State) (c : FaultCause) (v : Nat) : (s.raise c v).cfg = s.cfg := rfl
@[simp] theorem State.raise_regs (s : State) (c : FaultCause) (v : Nat) : (s.raise c v).regs = s.regs := rfl
@[simp] theorem State.raise_pc (s : State) (c : FaultCause) (v : Nat) : (s.raise c v).pc = s.pc := rfl
@[simp] theorem State.raise_mem (s : State) (c : FaultCause) (v : Nat) : (s.raise c v).mem = s.mem := rfl
@[simp] theorem State.raise_run (s : State) (c : FaultCause) (v : Nat) : (s.raise c v).run = .faulted ⟨c, v⟩ := rfl
@[simp] theorem State.raise_cycles (s : State) (c : FaultCause) (v : Nat) : (s.raise c v).cycles = s.cycles := rfl
@[simp] theorem State.raise_diag (s : State) (c : FaultCause) (v : Nat) : (s.raise c v).diag = s.diag ++ [.fault c v] := rfl

@[simp] theorem State.warn_cfg (s : State) (k : WarningKind) (v : Nat) : (s.warn k v).cfg = s.cfg := rfl
@[simp] theorem State.warn_regs (s : State) (k : WarningKind) (v : Nat) : (s.warn k v).regs = s.regs := rfl
@[simp] theorem State.warn_pc (s : State) (k : WarningKind) (v : Nat) : (s.warn k v).pc = s.pc := rfl
@[simp] theorem State.warn_mem (s : State) (k : WarningKind) (v : Nat) : (s.warn k v).mem = s.mem := rfl
@[simp] theorem State.warn_run (s : State) (k : WarningKind) (v : Nat) : (s.warn k v).run = s.run := rfl
@[simp] theorem State.warn_cycles (s : State) (k : WarningKind) (v : Nat) : (s.warn k v).cycles = s.cycles := rfl
@[simp] theorem State.warn_diag (s : State) (k : WarningKind) (v : Nat) : (s.warn k v).diag = s.diag ++ [.warning k v] := rfl

@[simp] theorem State.halt_cfg (s : State) : (s.halt).cfg = s.cfg := rfl
@[simp] theorem State.halt_regs (s : State) : (s.halt).regs = s.regs := rfl
@[simp] theorem State.halt_pc (s : State) : (s.halt).pc = s.pc := rfl
@[simp] theorem State.halt_mem (s : State) : (s.halt).mem = s.mem := rfl
@[simp] theorem State.halt_run (s : State) : (s.halt).run = .halted := rfl
@[simp] theorem State.halt_cycles (s : State) : (s.halt).cycles = s.cycles := rfl
@[simp] theorem State.halt_diag (s : State) : (s.halt).diag = s.diag := rfl

@[simp] theorem State.countCycle_cfg (s : State) : (s.countCycle).cfg = s.cfg := rfl
@[simp] theorem State.countCycle_regs (s : State) : (s.countCycle).regs = s.regs := rfl
@[simp] theorem State.countCycle_pc (s : State) : (s.countCycle).pc = s.pc := rfl
@[simp] theorem State.countCycle_mem (s : State) : (s.countCycle).mem = s.mem := rfl
@[simp] theorem State.countCycle_run (s : State) : (s.countCycle).run = s.run := rfl
@[simp] theorem State.countCycle_cycles (s : State) : (s.countCycle).cycles = s.cycles + 1 := rfl
@[simp] theorem State.countCycle_diag (s : State) : (s.countCycle).diag = s.diag := rfl

/-! The ports are the register file's own reads and writes (30_encoding.md R68). -/

@[simp] theorem State.portA_eq_readReg (s : State) (r : RegIdx) : s.portA r = s.readReg r := rfl

@[simp] theorem State.portB_eq_readReg (s : State) (r : RegIdx) : s.portB r = s.readReg r := rfl

@[simp] theorem State.writePort_eq_writeReg (s : State) (r : RegIdx) (v : Word) : s.writePort r v = s.writeReg r v := rfl

@[simp] theorem State.serviceNumber_eq_readReg (s : State) : s.serviceNumber = s.readReg 0 := rfl

@[simp] theorem State.wordIndex_eq_readReg (s : State) (r : RegIdx) : s.wordIndex r = s.readReg r := rfl

@[simp] theorem immediateOperand_eq (imm : Word) : immediateOperand imm = imm := rfl

/-! What a register reads after an update. -/

/-- Equal register files read alike. -/
theorem State.readReg_congr {s t : State} (h : t.regs = s.regs) (r : RegIdx) : t.readReg r = s.readReg r := by
  simp only [State.readReg, h]

/-- The register written reads the value written, any other reads as before (10_state.md R21). -/
theorem State.readReg_writeReg (s : State) (r r' : RegIdx) (v : Word) :
    (s.writeReg r v).readReg r' = if r' = r then v else s.readReg r' := by
  simp only [State.readReg, State.writeReg_regs, Vector.get_eq_getElem, Vector.getElem_set]
  by_cases h : r' = r
  · subst h; simp
  · rw [if_neg (fun e => h (Fin.ext e.symm)), if_neg h]

@[simp] theorem State.readReg_writeReg_same (s : State) (r : RegIdx) (v : Word) : (s.writeReg r v).readReg r = v := by
  simp [State.readReg_writeReg]

theorem State.readReg_writeReg_other (s : State) {r r' : RegIdx} (v : Word) (h : r' ≠ r) :
    (s.writeReg r v).readReg r' = s.readReg r' := by
  simp [State.readReg_writeReg, h]

@[simp] theorem State.readReg_setPc (s : State) (target : Word) (r : RegIdx) : (s.setPc target).readReg r = s.readReg r := rfl
@[simp] theorem State.readReg_advancePc (s : State) (r : RegIdx) : (s.advancePc).readReg r = s.readReg r := rfl
@[simp] theorem State.readReg_setCell (s : State) (i v : Word) (r : RegIdx) : (s.setCell i v).readReg r = s.readReg r := rfl
@[simp] theorem State.readReg_raise (s : State) (c : FaultCause) (v : Nat) (r : RegIdx) : (s.raise c v).readReg r = s.readReg r := rfl
@[simp] theorem State.readReg_warn (s : State) (k : WarningKind) (v : Nat) (r : RegIdx) : (s.warn k v).readReg r = s.readReg r := rfl
@[simp] theorem State.readReg_halt (s : State) (r : RegIdx) : (s.halt).readReg r = s.readReg r := rfl
@[simp] theorem State.readReg_countCycle (s : State) (r : RegIdx) : (s.countCycle).readReg r = s.readReg r := rfl

end Sys2Proof.Machine
end

