-- ==== Sys2Proof/Laws/Ops.lean ====
section
/-! SUPPORT. For each shared operation, what it can do: cited instead of unfolding it. -/

namespace Sys2Proof.Machine

/-! ### The memory primitives (20_memory.md R41, R42) -/

theorem State.memRead_inRange (s : State) {i : Word} (h : i.toNat < s.cfg.memorySize) :
    s.memRead i = .ok (s.mem.read i.toNat) := by
  rw [State.memRead, if_neg (by omega)]

theorem State.memRead_outOfRange (s : State) {i : Word} (h : s.cfg.memorySize ≤ i.toNat) : s.memRead i = .error ⟨i⟩ := by
  rw [State.memRead, if_pos h]

theorem State.memWrite_inRange (s : State) {i : Word} (v : Word) (h : i.toNat < s.cfg.memorySize) :
    s.memWrite i v = .ok (s.setCell i v) := by
  rw [State.memWrite, if_neg (by omega)]

theorem State.memWrite_outOfRange (s : State) {i : Word} (v : Word) (h : s.cfg.memorySize ≤ i.toNat) :
    s.memWrite i v = .error ⟨i⟩ := by
  rw [State.memWrite, if_pos h]

/-- A cell changed in range keeps the memory's canonical form and its range. -/
theorem State.setCell_memForm {s : State} {i : Word} (v : Word) (h : s.mem.wf = true)
    (hr : s.mem.within s.cfg.memorySize = true) (hi : i.toNat < s.cfg.memorySize) :
    (s.setCell i v).mem.wf = true ∧ (s.setCell i v).mem.within s.cfg.memorySize = true :=
  ⟨Memory.wf_write h _ _, Memory.within_write hr _ _ hi⟩

/-- Placing an instruction word keeps the memory's canonical form and its range. -/
theorem State.placeAtPc_memForm {s : State} (w : Word) (h : s.mem.wf = true)
    (hr : s.mem.within s.cfg.memorySize = true) :
    (s.placeAtPc w).mem.wf = true ∧ (s.placeAtPc w).mem.within s.cfg.memorySize = true := by
  by_cases hp : s.pcInRange = true
  · simp only [State.placeAtPc, hp, if_true]
    exact ⟨Memory.wf_write h _ _, Memory.within_write hr _ _ (of_decide_eq_true hp)⟩
  · simp only [State.placeAtPc, hp]
    exact ⟨h, hr⟩

/-! ### The ALU's functions on integers (41_alu.md R101 to R106) -/

theorem aluAdd_toNat (a b : Word) : (aluAdd a b).toNat = (a.toNat + b.toNat) % 65536 := by
  simp [aluAdd, BitVec.toNat_ofNat]

theorem aluSub_toNat (a b : Word) : ((aluSub a b).toNat : Int) = ((a.toNat : Int) - b.toNat) % 65536 := by
  rw [aluSub, BitVec.toNat_ofInt]
  simp only [wordModulus]
  omega

theorem aluMul_toNat (a b : Word) : (aluMul a b).toNat = (a.toNat * b.toNat) % 65536 := by
  simp [aluMul, BitVec.toNat_ofNat]

theorem aluDiv_toNat (a b : Word) : (aluDiv a b).toNat = if b.toNat = 0 then 0 else a.toNat / b.toNat := by
  unfold aluDiv
  split
  · rfl
  · rw [BitVec.toNat_ofNat]
    exact Nat.mod_eq_of_lt (Nat.lt_of_le_of_lt (Nat.div_le_self a.toNat b.toNat) a.isLt)

theorem aluCmpEqual_toNat (a b : Word) : (aluCmpEqual a b).toNat = if a = b then 1 else 0 := by
  unfold aluCmpEqual comparisonWord
  by_cases h : a = b <;> simp [h]

theorem aluCmpNeq_toNat (a b : Word) : (aluCmpNeq a b).toNat = if a = b then 0 else 1 := by
  unfold aluCmpNeq comparisonWord
  by_cases h : a = b <;> simp [h]

/-! ### A FormatR computation (41_alu.md R100) -/

theorem State.binary_eq (s : State) (f : Word → Word → Word) (rd rs1 rs2 : RegIdx) :
    s.binary f rd rs1 rs2 = s.writeReg rd (f (s.readReg rs1) (s.readReg rs2)) := rfl

/-! ### A taken transfer (44_jump.md R140) -/

theorem State.jumpTo_inRange (s : State) {target : Word} (h : target.toNat < s.cfg.memorySize) :
    s.jumpTo target = s.setPc target := by
  rw [State.jumpTo, if_pos h]

theorem State.jumpTo_outOfRange (s : State) {target : Word} (h : s.cfg.memorySize ≤ target.toNat) :
    s.jumpTo target = s.raise .jumpTargetOutOfRange target.toNat := by
  rw [State.jumpTo, if_neg (by omega)]

theorem conditionHolds_iff (c : Word) : conditionHolds c = true ↔ c ≠ 0#16 :=
  ⟨of_decide_eq_true, decide_eq_true⟩

/-! ### The end of a cycle (40_engine_cycle.md R86, R87) -/

theorem State.pcInRange_iff (s : State) : s.pcInRange = true ↔ s.pc.toNat < s.cfg.memorySize := by
  simp [State.pcInRange]

/-- What steps 6 and 7 can do: count, or count and raise the ceiling fault in a run that is still Running. -/
theorem State.endCycle_cases (t : State) :
    (¬(t.run = .running ∧ t.cfg.cycleLimit < t.cycles + 1) ∧ t.endCycle = t.countCycle) ∨
      (t.run = .running ∧ t.cfg.cycleLimit < t.cycles + 1 ∧
        t.endCycle = t.countCycle.raise .resourceExhaustion t.cfg.cycleLimit) := by
  by_cases h : t.run = .running ∧ t.cfg.cycleLimit < t.cycles + 1
  · exact .inr ⟨h.1, h.2, by simp [State.endCycle, State.checkCeiling, h]⟩
  · exact .inl ⟨h, by
      rw [State.endCycle, State.checkCeiling, if_neg]
      simpa using h⟩

end Sys2Proof.Machine
end

