-- ==== Sys2Proof/Laws/Exec.lean ====
section
/-! SUPPORT. What an instruction can do, said once for all 68 (40_engine_cycle.md R85): the lemmas that proofs about every
instruction cite instead of unfolding `exec`. -/

namespace Sys2Proof.Machine

/-- The effects an instruction can have on the state it executes in. -/
inductive Effect (s : State) : Instr → State → Prop where
  /-- A result in a register, of two registers (41_alu.md). -/
  | alu {i : Instr} (rd rs1 rs2 : RegIdx) (f : Word → Word → Word)
      (hi : (i, f) ∈ [(Instr.add rd rs1 rs2, aluAdd), (.sub rd rs1 rs2, aluSub), (.mul rd rs1 rs2, aluMul),
        (.div rd rs1 rs2, aluDiv), (.cmpEqual rd rs1 rs2, aluCmpEqual), (.cmpNeq rd rs1 rs2, aluCmpNeq)]) :
      Effect s i (s.writeReg rd (f (s.readReg rs1) (s.readReg rs2)))
  /-- 42_loadstore.md R121, in range. -/
  | load (rd rs1 rs2 : RegIdx) (h : (s.readReg rs1).toNat < s.cfg.memorySize) :
      Effect s (.load rd rs1 rs2) (s.writeReg rd (s.mem.read (s.readReg rs1).toNat))
  /-- 42_loadstore.md R121, out of range. -/
  | loadFault (rd rs1 rs2 : RegIdx) (h : s.cfg.memorySize ≤ (s.readReg rs1).toNat) :
      Effect s (.load rd rs1 rs2) (s.raise .loadOutOfRange (s.readReg rs1).toNat)
  /-- 42_loadstore.md R122, in range. -/
  | store (rd rs1 rs2 : RegIdx) (h : (s.readReg rs1).toNat < s.cfg.memorySize) :
      Effect s (.store rd rs1 rs2) (s.setCell (s.readReg rs1) (s.readReg rs2))
  /-- 42_loadstore.md R122, out of range. -/
  | storeFault (rd rs1 rs2 : RegIdx) (h : s.cfg.memorySize ≤ (s.readReg rs1).toNat) :
      Effect s (.store rd rs1 rs2) (s.raise .storeOutOfRange (s.readReg rs1).toNat)
  /-- 43_syscall.md R130, service 0. -/
  | halt (rd rs1 rs2 : RegIdx) (h : s.readReg 0 = 0#16) : Effect s (.syscall rd rs1 rs2) s.halt
  /-- 43_syscall.md R130, any other service. -/
  | service (rd rs1 rs2 : RegIdx) (h : s.readReg 0 ≠ 0#16) :
      Effect s (.syscall rd rs1 rs2) (s.warn .unimplementedService (s.readReg 0).toNat)
  /-- 44_jump.md R140 and R141, taken and in range. -/
  | jump {i : Instr} (reg : RegIdx) (imm : Word) (hi : i = .jump reg imm ∨ (i = .jumpCond reg imm ∧ s.readReg reg ≠ 0#16))
      (h : imm.toNat < s.cfg.memorySize) : Effect s i (s.setPc imm)
  /-- 44_jump.md R140 and R141, taken and out of range. -/
  | jumpFault {i : Instr} (reg : RegIdx) (imm : Word)
      (hi : i = .jump reg imm ∨ (i = .jumpCond reg imm ∧ s.readReg reg ≠ 0#16)) (h : s.cfg.memorySize ≤ imm.toNat) :
      Effect s i (s.raise .jumpTargetOutOfRange imm.toNat)
  /-- 44_jump.md R141, not taken. -/
  | notTaken (reg : RegIdx) (imm : Word) (h : s.readReg reg = 0#16) : Effect s (.jumpCond reg imm) s
  /-- 45_mov.md R150. -/
  | mov (reg : RegIdx) (imm : Word) : Effect s (.mov reg imm) (s.writeReg reg imm)
  /-- 46_unrecognized.md R160. -/
  | unassignedR {i : Instr} (opcode : Nat) (hi : i.tableBits = (BitVec.ofNat 16 (opcode * 512), 0xFE00#16)) :
      Effect s i (s.warn .unrecognizedOpcodeR opcode)
  /-- 46_unrecognized.md R161. -/
  | unassignedI (reg : RegIdx) (imm : Word) : Effect s (.unassignedI2 reg imm) (s.warn .unrecognizedOpcodeI 2)

theorem execLoad_effect (rd rs1 rs2 : RegIdx) (s : State) :
    ∃ t, execLoad rd rs1 s = .next t ∧ Effect s (.load rd rs1 rs2) t := by
  by_cases h : (s.readReg rs1).toNat < s.cfg.memorySize
  · exact ⟨_, by simp [execLoad, s.memRead_inRange h], .load rd rs1 rs2 h⟩
  · have h' : s.cfg.memorySize ≤ (s.readReg rs1).toNat := by omega
    exact ⟨_, by simp [execLoad, s.memRead_outOfRange h'], .loadFault rd rs1 rs2 h'⟩

theorem execStore_effect (rd rs1 rs2 : RegIdx) (s : State) :
    ∃ t, execStore rs1 rs2 s = .next t ∧ Effect s (.store rd rs1 rs2) t := by
  by_cases h : (s.readReg rs1).toNat < s.cfg.memorySize
  · exact ⟨_, by simp [execStore, s.memWrite_inRange _ h], .store rd rs1 rs2 h⟩
  · have h' : s.cfg.memorySize ≤ (s.readReg rs1).toNat := by omega
    exact ⟨_, by simp [execStore, s.memWrite_outOfRange _ h'], .storeFault rd rs1 rs2 h'⟩

theorem execSyscall_effect (rd rs1 rs2 : RegIdx) (s : State) :
    ∃ t, execSyscall s = .next t ∧ Effect s (.syscall rd rs1 rs2) t := by
  by_cases h : s.readReg 0 = 0#16
  · exact ⟨_, by simp [execSyscall, Config.haltService, h], .halt rd rs1 rs2 h⟩
  · exact ⟨_, by simp [execSyscall, Config.haltService, h], .service rd rs1 rs2 h⟩

theorem jumpTo_effect {i : Instr} (reg : RegIdx) (imm : Word) (s : State)
    (hi : i = .jump reg imm ∨ (i = .jumpCond reg imm ∧ s.readReg reg ≠ 0#16)) : Effect s i (s.jumpTo imm) := by
  by_cases h : imm.toNat < s.cfg.memorySize
  · rw [s.jumpTo_inRange h]; exact .jump reg imm hi h
  · have h' : s.cfg.memorySize ≤ imm.toNat := by omega
    rw [s.jumpTo_outOfRange h']; exact .jumpFault reg imm hi h'

theorem execJumpCond_effect (reg : RegIdx) (imm : Word) (s : State) :
    ∃ t, execJumpCond reg imm s = .next t ∧ Effect s (.jumpCond reg imm) t := by
  by_cases h : s.readReg reg = 0#16
  · exact ⟨s, by simp [execJumpCond, conditionHolds, h], .notTaken reg imm h⟩
  · exact ⟨s.jumpTo imm, by simp [execJumpCond, conditionHolds, h], jumpTo_effect reg imm s (.inr ⟨rfl, h⟩)⟩

/-- Every instruction answers a next state, by one of the effects. -/
theorem exec_effect (i : Instr) (s : State) : ∃ t, exec i s = .next t ∧ Effect s i t := by
  cases i with
  | add rd rs1 rs2 => exact ⟨_, rfl, .alu rd rs1 rs2 aluAdd (by simp)⟩
  | sub rd rs1 rs2 => exact ⟨_, rfl, .alu rd rs1 rs2 aluSub (by simp)⟩
  | mul rd rs1 rs2 => exact ⟨_, rfl, .alu rd rs1 rs2 aluMul (by simp)⟩
  | div rd rs1 rs2 => exact ⟨_, rfl, .alu rd rs1 rs2 aluDiv (by simp)⟩
  | cmpEqual rd rs1 rs2 => exact ⟨_, rfl, .alu rd rs1 rs2 aluCmpEqual (by simp)⟩
  | cmpNeq rd rs1 rs2 => exact ⟨_, rfl, .alu rd rs1 rs2 aluCmpNeq (by simp)⟩
  | load rd rs1 rs2 => exact execLoad_effect rd rs1 rs2 s
  | store rd rs1 rs2 => exact execStore_effect rd rs1 rs2 s
  | syscall rd rs1 rs2 => exact execSyscall_effect rd rs1 rs2 s
  | jump reg imm => exact ⟨_, rfl, jumpTo_effect reg imm s (.inl rfl)⟩
  | jumpCond reg imm => exact execJumpCond_effect reg imm s
  | mov reg imm => exact ⟨_, rfl, .mov reg imm⟩
  | unassignedI2 reg imm => exact ⟨_, rfl, .unassignedI reg imm⟩
  | _ => exact ⟨_, rfl, .unassignedR _ rfl⟩

/-- The next state of an instruction is one of its effects. -/
theorem effect_of_exec {i : Instr} {s t : State} (h : exec i s = .next t) : Effect s i t := by
  obtain ⟨t', h', e⟩ := exec_effect i s
  rw [h'] at h
  cases h
  exact e

/-- What a step can do (40_engine_cycle.md R88, R89): nothing in a terminal state, the fault of a failed PC check, or the
cycle of the instruction at the pc. -/
theorem step_cases {s t : State} (h : step s = .next t) :
    (s.run ≠ .running ∧ t = s) ∨ (s.run = .running ∧ s.cfg.memorySize ≤ s.pc.toNat ∧ t = s.failPcCheck) ∨
      (s.run = .running ∧ s.pc.toNat < s.cfg.memorySize ∧
        ∃ u, exec s.currentInstr s.advancePc = .next u ∧ Effect s.advancePc s.currentInstr u ∧ t = u.endCycle) := by
  unfold step at h
  split at h
  · next hr => cases h; exact .inl ⟨by simp [hr], rfl⟩
  · next hr => cases h; exact .inl ⟨by simp [hr], rfl⟩
  · next hr =>
    split at h
    · next hp =>
      obtain ⟨u, hu, e⟩ := exec_effect s.currentInstr s.advancePc
      rw [hu] at h
      cases h
      exact .inr (.inr ⟨hr, s.pcInRange_iff.1 hp, u, hu, e, rfl⟩)
    · next hp =>
      cases h
      exact .inr (.inl ⟨hr, by have := mt s.pcInRange_iff.2 hp; omega, rfl⟩)

/-- The step of a running state whose pc is in range, from what its instruction answers. -/
theorem step_of_exec {s u : State} (hr : s.run = .running) (hp : s.pc.toNat < s.cfg.memorySize)
    (h : exec s.currentInstr s.advancePc = .next u) : step s = .next u.endCycle := by
  simp only [step, hr, s.pcInRange_iff.2 hp, if_true, h, finishCycle]

/-- What `State.withFetchWord` is for: the next step runs the instruction of the word placed. -/
theorem State.withFetchWord_runs {s : State} (nbits w : Nat) (hm : s.mem.wf = true) (hp : s.pc.toNat < s.cfg.memorySize) :
    step (s.withFetchWord nbits w) =
      finishCycle (exec (decode (tableWord nbits w)) (s.withFetchWord nbits w).advancePc) := by
  have hp' : s.pcInRange = true := s.pcInRange_iff.2 hp
  have hfetch : (s.withFetchWord nbits w).fetch = tableWord nbits w := by
    simp only [State.withFetchWord, State.placeAtPc, State.fetch, hp', if_true]
    exact Memory.read_write_same hm _ _
  have hrange : (s.withFetchWord nbits w).pcInRange = true := hp'
  simp only [step, show (s.withFetchWord nbits w).run = .running from rfl, hrange, if_true, State.currentInstr, hfetch]

end Sys2Proof.Machine
end

