-- ==== Sys2Proof/Laws/PerInstr.lean ====
section
/-! SUPPORT. The laws stated per instruction: the word encoded for an instruction carries its row's fixed bits of
spec/opcode_table.json. One lemma for each constructor of Instr. -/

namespace Sys2Proof.Laws

/-- Under its row's mask, an instruction's word is its row's match (30_encoding.md R70, R71). -/
def EncodingMatchesTable.Statement (i : Instr) : Prop := encode i &&& i.tableBits.2 = i.tableBits.1

/-- A mask distributes over the fields put together. -/
theorem mask_of_or (x y m : Word) : (x ||| y) &&& m = (x &&& m) ||| (y &&& m) := by
  ext i
  simp [Bool.and_or_distrib_right]

/-- The fixed bits of a FormatR word are bit 15 and the opcode (30_encoding.md R63). -/
theorem encodeR_fixed_bits (opcode : BitVec 6) (rd rs1 rs2 : RegIdx) :
    encodeR opcode rd rs1 rs2 &&& 0xFE00#16 = opcode.setWidth 16 <<< 9 := by
  have h0 : ∀ r : RegIdx, BitVec.ofNat 16 r.val &&& 0xFE00#16 = 0#16 := by decide
  have h3 : ∀ r : RegIdx, (BitVec.ofNat 16 r.val <<< 3) &&& 0xFE00#16 = 0#16 := by decide
  have h6 : ∀ r : RegIdx, (BitVec.ofNat 16 r.val <<< 6) &&& 0xFE00#16 = 0#16 := by decide
  have op : ∀ o : BitVec 6, (o.setWidth 16 <<< 9) &&& 0xFE00#16 = o.setWidth 16 <<< 9 := by decide
  simp only [encodeR, mask_of_or, h0, h3, h6, op, BitVec.or_zero]

/-- The fixed bits of a FormatI word are bit 15 and the opcode (30_encoding.md R64). -/
theorem encodeI_fixed_bits (opcode : BitVec 2) (reg : RegIdx) (imm : Word) :
    encodeI opcode reg imm &&& 0xE000#16 = 0x8000#16 ||| (opcode.setWidth 16 <<< 13) := by
  have field : ∀ r : RegIdx, (BitVec.ofNat 16 r.val <<< 10) &&& 0xE000#16 = 0#16 := by decide
  have op : ∀ o : BitVec 2, (o.setWidth 16 <<< 13) &&& 0xE000#16 = o.setWidth 16 <<< 13 := by decide
  have low : imm &&& 0x03FF#16 &&& 0xE000#16 = 0#16 := by
    rw [BitVec.and_assoc, show (0x03FF#16 &&& 0xE000#16) = 0#16 from by decide, BitVec.and_zero]
  have top : 0x8000#16 &&& 0xE000#16 = 0x8000#16 := by decide
  simp only [encodeI, mask_of_or, op, field, low, top, BitVec.or_zero]

theorem EncodingMatchesTable.add (rd rs1 rs2 : RegIdx) : EncodingMatchesTable.Statement (.add rd rs1 rs2) :=
  (encodeR_fixed_bits 0 rd rs1 rs2).trans rfl

theorem EncodingMatchesTable.sub (rd rs1 rs2 : RegIdx) : EncodingMatchesTable.Statement (.sub rd rs1 rs2) :=
  (encodeR_fixed_bits 1 rd rs1 rs2).trans rfl

theorem EncodingMatchesTable.mul (rd rs1 rs2 : RegIdx) : EncodingMatchesTable.Statement (.mul rd rs1 rs2) :=
  (encodeR_fixed_bits 2 rd rs1 rs2).trans rfl

theorem EncodingMatchesTable.div (rd rs1 rs2 : RegIdx) : EncodingMatchesTable.Statement (.div rd rs1 rs2) :=
  (encodeR_fixed_bits 3 rd rs1 rs2).trans rfl

theorem EncodingMatchesTable.cmpEqual (rd rs1 rs2 : RegIdx) : EncodingMatchesTable.Statement (.cmpEqual rd rs1 rs2) :=
  (encodeR_fixed_bits 4 rd rs1 rs2).trans rfl

theorem EncodingMatchesTable.cmpNeq (rd rs1 rs2 : RegIdx) : EncodingMatchesTable.Statement (.cmpNeq rd rs1 rs2) :=
  (encodeR_fixed_bits 5 rd rs1 rs2).trans rfl

theorem EncodingMatchesTable.load (rd rs1 rs2 : RegIdx) : EncodingMatchesTable.Statement (.load rd rs1 rs2) :=
  (encodeR_fixed_bits 15 rd rs1 rs2).trans rfl

theorem EncodingMatchesTable.store (rd rs1 rs2 : RegIdx) : EncodingMatchesTable.Statement (.store rd rs1 rs2) :=
  (encodeR_fixed_bits 16 rd rs1 rs2).trans rfl

theorem EncodingMatchesTable.syscall (rd rs1 rs2 : RegIdx) : EncodingMatchesTable.Statement (.syscall rd rs1 rs2) :=
  (encodeR_fixed_bits 63 rd rs1 rs2).trans rfl

theorem EncodingMatchesTable.jump (reg : RegIdx) (imm : Word) : EncodingMatchesTable.Statement (.jump reg imm) :=
  (encodeI_fixed_bits 0 reg imm).trans rfl

theorem EncodingMatchesTable.jumpCond (reg : RegIdx) (imm : Word) : EncodingMatchesTable.Statement (.jumpCond reg imm) :=
  (encodeI_fixed_bits 1 reg imm).trans rfl

theorem EncodingMatchesTable.mov (reg : RegIdx) (imm : Word) : EncodingMatchesTable.Statement (.mov reg imm) :=
  (encodeI_fixed_bits 3 reg imm).trans rfl

theorem EncodingMatchesTable.unassignedR6 (rd rs1 rs2 : RegIdx) : EncodingMatchesTable.Statement (.unassignedR6 rd rs1 rs2) :=
  (encodeR_fixed_bits 6 rd rs1 rs2).trans rfl

theorem EncodingMatchesTable.unassignedR7 (rd rs1 rs2 : RegIdx) : EncodingMatchesTable.Statement (.unassignedR7 rd rs1 rs2) :=
  (encodeR_fixed_bits 7 rd rs1 rs2).trans rfl

theorem EncodingMatchesTable.unassignedR8 (rd rs1 rs2 : RegIdx) : EncodingMatchesTable.Statement (.unassignedR8 rd rs1 rs2) :=
  (encodeR_fixed_bits 8 rd rs1 rs2).trans rfl

theorem EncodingMatchesTable.unassignedR9 (rd rs1 rs2 : RegIdx) : EncodingMatchesTable.Statement (.unassignedR9 rd rs1 rs2) :=
  (encodeR_fixed_bits 9 rd rs1 rs2).trans rfl

theorem EncodingMatchesTable.unassignedR10 (rd rs1 rs2 : RegIdx) : EncodingMatchesTable.Statement (.unassignedR10 rd rs1 rs2) :=
  (encodeR_fixed_bits 10 rd rs1 rs2).trans rfl

theorem EncodingMatchesTable.unassignedR11 (rd rs1 rs2 : RegIdx) : EncodingMatchesTable.Statement (.unassignedR11 rd rs1 rs2) :=
  (encodeR_fixed_bits 11 rd rs1 rs2).trans rfl

theorem EncodingMatchesTable.unassignedR12 (rd rs1 rs2 : RegIdx) : EncodingMatchesTable.Statement (.unassignedR12 rd rs1 rs2) :=
  (encodeR_fixed_bits 12 rd rs1 rs2).trans rfl

theorem EncodingMatchesTable.unassignedR13 (rd rs1 rs2 : RegIdx) : EncodingMatchesTable.Statement (.unassignedR13 rd rs1 rs2) :=
  (encodeR_fixed_bits 13 rd rs1 rs2).trans rfl

theorem EncodingMatchesTable.unassignedR14 (rd rs1 rs2 : RegIdx) : EncodingMatchesTable.Statement (.unassignedR14 rd rs1 rs2) :=
  (encodeR_fixed_bits 14 rd rs1 rs2).trans rfl

theorem EncodingMatchesTable.unassignedR17 (rd rs1 rs2 : RegIdx) : EncodingMatchesTable.Statement (.unassignedR17 rd rs1 rs2) :=
  (encodeR_fixed_bits 17 rd rs1 rs2).trans rfl

theorem EncodingMatchesTable.unassignedR18 (rd rs1 rs2 : RegIdx) : EncodingMatchesTable.Statement (.unassignedR18 rd rs1 rs2) :=
  (encodeR_fixed_bits 18 rd rs1 rs2).trans rfl

theorem EncodingMatchesTable.unassignedR19 (rd rs1 rs2 : RegIdx) : EncodingMatchesTable.Statement (.unassignedR19 rd rs1 rs2) :=
  (encodeR_fixed_bits 19 rd rs1 rs2).trans rfl

theorem EncodingMatchesTable.unassignedR20 (rd rs1 rs2 : RegIdx) : EncodingMatchesTable.Statement (.unassignedR20 rd rs1 rs2) :=
  (encodeR_fixed_bits 20 rd rs1 rs2).trans rfl

theorem EncodingMatchesTable.unassignedR21 (rd rs1 rs2 : RegIdx) : EncodingMatchesTable.Statement (.unassignedR21 rd rs1 rs2) :=
  (encodeR_fixed_bits 21 rd rs1 rs2).trans rfl

theorem EncodingMatchesTable.unassignedR22 (rd rs1 rs2 : RegIdx) : EncodingMatchesTable.Statement (.unassignedR22 rd rs1 rs2) :=
  (encodeR_fixed_bits 22 rd rs1 rs2).trans rfl

theorem EncodingMatchesTable.unassignedR23 (rd rs1 rs2 : RegIdx) : EncodingMatchesTable.Statement (.unassignedR23 rd rs1 rs2) :=
  (encodeR_fixed_bits 23 rd rs1 rs2).trans rfl

theorem EncodingMatchesTable.unassignedR24 (rd rs1 rs2 : RegIdx) : EncodingMatchesTable.Statement (.unassignedR24 rd rs1 rs2) :=
  (encodeR_fixed_bits 24 rd rs1 rs2).trans rfl

theorem EncodingMatchesTable.unassignedR25 (rd rs1 rs2 : RegIdx) : EncodingMatchesTable.Statement (.unassignedR25 rd rs1 rs2) :=
  (encodeR_fixed_bits 25 rd rs1 rs2).trans rfl

theorem EncodingMatchesTable.unassignedR26 (rd rs1 rs2 : RegIdx) : EncodingMatchesTable.Statement (.unassignedR26 rd rs1 rs2) :=
  (encodeR_fixed_bits 26 rd rs1 rs2).trans rfl

theorem EncodingMatchesTable.unassignedR27 (rd rs1 rs2 : RegIdx) : EncodingMatchesTable.Statement (.unassignedR27 rd rs1 rs2) :=
  (encodeR_fixed_bits 27 rd rs1 rs2).trans rfl

theorem EncodingMatchesTable.unassignedR28 (rd rs1 rs2 : RegIdx) : EncodingMatchesTable.Statement (.unassignedR28 rd rs1 rs2) :=
  (encodeR_fixed_bits 28 rd rs1 rs2).trans rfl

theorem EncodingMatchesTable.unassignedR29 (rd rs1 rs2 : RegIdx) : EncodingMatchesTable.Statement (.unassignedR29 rd rs1 rs2) :=
  (encodeR_fixed_bits 29 rd rs1 rs2).trans rfl

theorem EncodingMatchesTable.unassignedR30 (rd rs1 rs2 : RegIdx) : EncodingMatchesTable.Statement (.unassignedR30 rd rs1 rs2) :=
  (encodeR_fixed_bits 30 rd rs1 rs2).trans rfl

theorem EncodingMatchesTable.unassignedR31 (rd rs1 rs2 : RegIdx) : EncodingMatchesTable.Statement (.unassignedR31 rd rs1 rs2) :=
  (encodeR_fixed_bits 31 rd rs1 rs2).trans rfl

theorem EncodingMatchesTable.unassignedR32 (rd rs1 rs2 : RegIdx) : EncodingMatchesTable.Statement (.unassignedR32 rd rs1 rs2) :=
  (encodeR_fixed_bits 32 rd rs1 rs2).trans rfl

theorem EncodingMatchesTable.unassignedR33 (rd rs1 rs2 : RegIdx) : EncodingMatchesTable.Statement (.unassignedR33 rd rs1 rs2) :=
  (encodeR_fixed_bits 33 rd rs1 rs2).trans rfl

theorem EncodingMatchesTable.unassignedR34 (rd rs1 rs2 : RegIdx) : EncodingMatchesTable.Statement (.unassignedR34 rd rs1 rs2) :=
  (encodeR_fixed_bits 34 rd rs1 rs2).trans rfl

theorem EncodingMatchesTable.unassignedR35 (rd rs1 rs2 : RegIdx) : EncodingMatchesTable.Statement (.unassignedR35 rd rs1 rs2) :=
  (encodeR_fixed_bits 35 rd rs1 rs2).trans rfl

theorem EncodingMatchesTable.unassignedR36 (rd rs1 rs2 : RegIdx) : EncodingMatchesTable.Statement (.unassignedR36 rd rs1 rs2) :=
  (encodeR_fixed_bits 36 rd rs1 rs2).trans rfl

theorem EncodingMatchesTable.unassignedR37 (rd rs1 rs2 : RegIdx) : EncodingMatchesTable.Statement (.unassignedR37 rd rs1 rs2) :=
  (encodeR_fixed_bits 37 rd rs1 rs2).trans rfl

theorem EncodingMatchesTable.unassignedR38 (rd rs1 rs2 : RegIdx) : EncodingMatchesTable.Statement (.unassignedR38 rd rs1 rs2) :=
  (encodeR_fixed_bits 38 rd rs1 rs2).trans rfl

theorem EncodingMatchesTable.unassignedR39 (rd rs1 rs2 : RegIdx) : EncodingMatchesTable.Statement (.unassignedR39 rd rs1 rs2) :=
  (encodeR_fixed_bits 39 rd rs1 rs2).trans rfl

theorem EncodingMatchesTable.unassignedR40 (rd rs1 rs2 : RegIdx) : EncodingMatchesTable.Statement (.unassignedR40 rd rs1 rs2) :=
  (encodeR_fixed_bits 40 rd rs1 rs2).trans rfl

theorem EncodingMatchesTable.unassignedR41 (rd rs1 rs2 : RegIdx) : EncodingMatchesTable.Statement (.unassignedR41 rd rs1 rs2) :=
  (encodeR_fixed_bits 41 rd rs1 rs2).trans rfl

theorem EncodingMatchesTable.unassignedR42 (rd rs1 rs2 : RegIdx) : EncodingMatchesTable.Statement (.unassignedR42 rd rs1 rs2) :=
  (encodeR_fixed_bits 42 rd rs1 rs2).trans rfl

theorem EncodingMatchesTable.unassignedR43 (rd rs1 rs2 : RegIdx) : EncodingMatchesTable.Statement (.unassignedR43 rd rs1 rs2) :=
  (encodeR_fixed_bits 43 rd rs1 rs2).trans rfl

theorem EncodingMatchesTable.unassignedR44 (rd rs1 rs2 : RegIdx) : EncodingMatchesTable.Statement (.unassignedR44 rd rs1 rs2) :=
  (encodeR_fixed_bits 44 rd rs1 rs2).trans rfl

theorem EncodingMatchesTable.unassignedR45 (rd rs1 rs2 : RegIdx) : EncodingMatchesTable.Statement (.unassignedR45 rd rs1 rs2) :=
  (encodeR_fixed_bits 45 rd rs1 rs2).trans rfl

theorem EncodingMatchesTable.unassignedR46 (rd rs1 rs2 : RegIdx) : EncodingMatchesTable.Statement (.unassignedR46 rd rs1 rs2) :=
  (encodeR_fixed_bits 46 rd rs1 rs2).trans rfl

theorem EncodingMatchesTable.unassignedR47 (rd rs1 rs2 : RegIdx) : EncodingMatchesTable.Statement (.unassignedR47 rd rs1 rs2) :=
  (encodeR_fixed_bits 47 rd rs1 rs2).trans rfl

theorem EncodingMatchesTable.unassignedR48 (rd rs1 rs2 : RegIdx) : EncodingMatchesTable.Statement (.unassignedR48 rd rs1 rs2) :=
  (encodeR_fixed_bits 48 rd rs1 rs2).trans rfl

theorem EncodingMatchesTable.unassignedR49 (rd rs1 rs2 : RegIdx) : EncodingMatchesTable.Statement (.unassignedR49 rd rs1 rs2) :=
  (encodeR_fixed_bits 49 rd rs1 rs2).trans rfl

theorem EncodingMatchesTable.unassignedR50 (rd rs1 rs2 : RegIdx) : EncodingMatchesTable.Statement (.unassignedR50 rd rs1 rs2) :=
  (encodeR_fixed_bits 50 rd rs1 rs2).trans rfl

theorem EncodingMatchesTable.unassignedR51 (rd rs1 rs2 : RegIdx) : EncodingMatchesTable.Statement (.unassignedR51 rd rs1 rs2) :=
  (encodeR_fixed_bits 51 rd rs1 rs2).trans rfl

theorem EncodingMatchesTable.unassignedR52 (rd rs1 rs2 : RegIdx) : EncodingMatchesTable.Statement (.unassignedR52 rd rs1 rs2) :=
  (encodeR_fixed_bits 52 rd rs1 rs2).trans rfl

theorem EncodingMatchesTable.unassignedR53 (rd rs1 rs2 : RegIdx) : EncodingMatchesTable.Statement (.unassignedR53 rd rs1 rs2) :=
  (encodeR_fixed_bits 53 rd rs1 rs2).trans rfl

theorem EncodingMatchesTable.unassignedR54 (rd rs1 rs2 : RegIdx) : EncodingMatchesTable.Statement (.unassignedR54 rd rs1 rs2) :=
  (encodeR_fixed_bits 54 rd rs1 rs2).trans rfl

theorem EncodingMatchesTable.unassignedR55 (rd rs1 rs2 : RegIdx) : EncodingMatchesTable.Statement (.unassignedR55 rd rs1 rs2) :=
  (encodeR_fixed_bits 55 rd rs1 rs2).trans rfl

theorem EncodingMatchesTable.unassignedR56 (rd rs1 rs2 : RegIdx) : EncodingMatchesTable.Statement (.unassignedR56 rd rs1 rs2) :=
  (encodeR_fixed_bits 56 rd rs1 rs2).trans rfl

theorem EncodingMatchesTable.unassignedR57 (rd rs1 rs2 : RegIdx) : EncodingMatchesTable.Statement (.unassignedR57 rd rs1 rs2) :=
  (encodeR_fixed_bits 57 rd rs1 rs2).trans rfl

theorem EncodingMatchesTable.unassignedR58 (rd rs1 rs2 : RegIdx) : EncodingMatchesTable.Statement (.unassignedR58 rd rs1 rs2) :=
  (encodeR_fixed_bits 58 rd rs1 rs2).trans rfl

theorem EncodingMatchesTable.unassignedR59 (rd rs1 rs2 : RegIdx) : EncodingMatchesTable.Statement (.unassignedR59 rd rs1 rs2) :=
  (encodeR_fixed_bits 59 rd rs1 rs2).trans rfl

theorem EncodingMatchesTable.unassignedR60 (rd rs1 rs2 : RegIdx) : EncodingMatchesTable.Statement (.unassignedR60 rd rs1 rs2) :=
  (encodeR_fixed_bits 60 rd rs1 rs2).trans rfl

theorem EncodingMatchesTable.unassignedR61 (rd rs1 rs2 : RegIdx) : EncodingMatchesTable.Statement (.unassignedR61 rd rs1 rs2) :=
  (encodeR_fixed_bits 61 rd rs1 rs2).trans rfl

theorem EncodingMatchesTable.unassignedR62 (rd rs1 rs2 : RegIdx) : EncodingMatchesTable.Statement (.unassignedR62 rd rs1 rs2) :=
  (encodeR_fixed_bits 62 rd rs1 rs2).trans rfl

theorem EncodingMatchesTable.unassignedI2 (reg : RegIdx) (imm : Word) : EncodingMatchesTable.Statement (.unassignedI2 reg imm) :=
  (encodeI_fixed_bits 2 reg imm).trans rfl

end Sys2Proof.Laws
end

