-- ==== Sys2Proof/Laws/Run.lean ====
section
/-! SUPPORT. Runs of the host's machine, in terms of `step`: what an induction over iterations unfolds, once. -/

namespace Sys2Proof.Machine

@[simp] theorem core_run_zero (s : State) : Sys2Proof.core.run 0 s = .next s := rfl

/-- One iteration and then the rest, for a step that answers a next state, as every step does. -/
theorem core_run_succ {s t : State} (n : Nat) (h : step s = .next t) :
    Sys2Proof.core.run (n + 1) s = Sys2Proof.core.run n t := by
  simp only [Host.Core.run]
  rw [show Sys2Proof.core.step s = Host.Outcome.next t from h]

/-- What a property of states needs to hold along every run: it is kept by every step. -/
theorem core_run_keeps {P : State → Prop} (hstep : ∀ s t, P s → step s = .next t → P t) :
    ∀ (n : Nat) (s t : State), P s → Sys2Proof.core.run n s = .next t → P t
  | 0, s, t, hs, h => by
    rw [core_run_zero] at h
    cases h
    exact hs
  | n + 1, s, t, hs, h => by
    cases hu : step s with
    | next u => exact core_run_keeps hstep n u t (hstep s u hs hu) (by rw [← core_run_succ n hu]; exact h)
    | fault r => exact r.rec
    | refused r =>
      simp only [Host.Core.run] at h
      rw [show Sys2Proof.core.step s = Host.Outcome.refused r from hu] at h
      cases h

end Sys2Proof.Machine
end

