-- ==== Sys2Proof/Tests/Slice0.lean ====
section
/-! SUPPORT. Tests: words and vectors of spec/95_test_vectors.md and words written out from the encodings of
30_encoding.md R63, R64, R70 and R71; and, for each statement with hypotheses, a state and operands that meet them. -/

namespace Sys2Proof.Tests

open Sys2Proof.Machine

/-! ### Well-formedness -/

/-- 90_conflicts.md C1: the target 40000 cannot be encoded; 1023 is the last that can (30_encoding.md R67). -/
theorem test_wellFormed_refuses_wide_immediates :
    (Instr.jump 0 40000#16).wellFormed = false ∧ (Instr.jumpCond 1 1024#16).wellFormed = false ∧
    (Instr.mov 2 0xFFFF#16).wellFormed = false ∧ (Instr.unassignedI2 3 1024#16).wellFormed = false ∧
    (Decoded.I { opcode := 0, reg := 0, immediate := 1024#16 }).wellFormed = false ∧
    (Instr.mov 7 1023#16).wellFormed = true ∧ (Instr.add 7 7 7).wellFormed = true := by decide

/-! ### Decoding: one word for each constructor, its bits written out (format, opcode, fields) -/

theorem test_decode_assigned_R :
    decode 0b0000000001010011#16 = .add 1 2 3 ∧
    decode 0b0000001100111010#16 = .sub 4 7 2 ∧
    decode 0b0000010111100001#16 = .mul 7 4 1 ∧
    decode 0b0000011010001000#16 = .div 2 1 0 ∧
    decode 0b0000100101110111#16 = .cmpEqual 5 6 7 ∧
    decode 0b0000101000011110#16 = .cmpNeq 0 3 6 ∧
    decode 0b0001111011000101#16 = .load 3 0 5 ∧
    decode 0b0010000110101100#16 = .store 6 5 4 ∧
    decode 0b0111111001010011#16 = .syscall 1 2 3 := by decide

theorem test_decode_format_I :
    decode 0b1001011000000001#16 = .jump 5 513#16 ∧
    decode 0b1010001000100101#16 = .jumpCond 0 549#16 ∧
    decode 0b1110111001001001#16 = .mov 3 585#16 ∧
    decode 0b1101101001101101#16 = .unassignedI2 6 621#16 := by decide

theorem test_decode_unassigned_R6_to_20 :
    decode 0b0000110001010011#16 = .unassignedR6 1 2 3 ∧
    decode 0b0000111100111010#16 = .unassignedR7 4 7 2 ∧
    decode 0b0001000111100001#16 = .unassignedR8 7 4 1 ∧
    decode 0b0001001010001000#16 = .unassignedR9 2 1 0 ∧
    decode 0b0001010101110111#16 = .unassignedR10 5 6 7 ∧
    decode 0b0001011000011110#16 = .unassignedR11 0 3 6 ∧
    decode 0b0001100011000101#16 = .unassignedR12 3 0 5 ∧
    decode 0b0001101110101100#16 = .unassignedR13 6 5 4 ∧
    decode 0b0001110001010011#16 = .unassignedR14 1 2 3 ∧
    decode 0b0010001100111010#16 = .unassignedR17 4 7 2 ∧
    decode 0b0010010111100001#16 = .unassignedR18 7 4 1 ∧
    decode 0b0010011010001000#16 = .unassignedR19 2 1 0 ∧
    decode 0b0010100101110111#16 = .unassignedR20 5 6 7 := by decide

theorem test_decode_unassigned_R21_to_34 :
    decode 0b0010101001010011#16 = .unassignedR21 1 2 3 ∧
    decode 0b0010110100111010#16 = .unassignedR22 4 7 2 ∧
    decode 0b0010111111100001#16 = .unassignedR23 7 4 1 ∧
    decode 0b0011000010001000#16 = .unassignedR24 2 1 0 ∧
    decode 0b0011001101110111#16 = .unassignedR25 5 6 7 ∧
    decode 0b0011010000011110#16 = .unassignedR26 0 3 6 ∧
    decode 0b0011011011000101#16 = .unassignedR27 3 0 5 ∧
    decode 0b0011100110101100#16 = .unassignedR28 6 5 4 ∧
    decode 0b0011101001010011#16 = .unassignedR29 1 2 3 ∧
    decode 0b0011110100111010#16 = .unassignedR30 4 7 2 ∧
    decode 0b0011111111100001#16 = .unassignedR31 7 4 1 ∧
    decode 0b0100000010001000#16 = .unassignedR32 2 1 0 ∧
    decode 0b0100001101110111#16 = .unassignedR33 5 6 7 ∧
    decode 0b0100010000011110#16 = .unassignedR34 0 3 6 := by decide

theorem test_decode_unassigned_R35_to_48 :
    decode 0b0100011001010011#16 = .unassignedR35 1 2 3 ∧
    decode 0b0100100100111010#16 = .unassignedR36 4 7 2 ∧
    decode 0b0100101111100001#16 = .unassignedR37 7 4 1 ∧
    decode 0b0100110010001000#16 = .unassignedR38 2 1 0 ∧
    decode 0b0100111101110111#16 = .unassignedR39 5 6 7 ∧
    decode 0b0101000000011110#16 = .unassignedR40 0 3 6 ∧
    decode 0b0101001011000101#16 = .unassignedR41 3 0 5 ∧
    decode 0b0101010110101100#16 = .unassignedR42 6 5 4 ∧
    decode 0b0101011001010011#16 = .unassignedR43 1 2 3 ∧
    decode 0b0101100100111010#16 = .unassignedR44 4 7 2 ∧
    decode 0b0101101111100001#16 = .unassignedR45 7 4 1 ∧
    decode 0b0101110010001000#16 = .unassignedR46 2 1 0 ∧
    decode 0b0101111101110111#16 = .unassignedR47 5 6 7 ∧
    decode 0b0110000000011110#16 = .unassignedR48 0 3 6 := by decide

theorem test_decode_unassigned_R49_to_62 :
    decode 0b0110001001010011#16 = .unassignedR49 1 2 3 ∧
    decode 0b0110010100111010#16 = .unassignedR50 4 7 2 ∧
    decode 0b0110011111100001#16 = .unassignedR51 7 4 1 ∧
    decode 0b0110100010001000#16 = .unassignedR52 2 1 0 ∧
    decode 0b0110101101110111#16 = .unassignedR53 5 6 7 ∧
    decode 0b0110110000011110#16 = .unassignedR54 0 3 6 ∧
    decode 0b0110111011000101#16 = .unassignedR55 3 0 5 ∧
    decode 0b0111000110101100#16 = .unassignedR56 6 5 4 ∧
    decode 0b0111001001010011#16 = .unassignedR57 1 2 3 ∧
    decode 0b0111010100111010#16 = .unassignedR58 4 7 2 ∧
    decode 0b0111011111100001#16 = .unassignedR59 7 4 1 ∧
    decode 0b0111100010001000#16 = .unassignedR60 2 1 0 ∧
    decode 0b0111101101110111#16 = .unassignedR61 5 6 7 ∧
    decode 0b0111110000011110#16 = .unassignedR62 0 3 6 := by decide

/-- The other words of 95_test_vectors.md section 2.1, with all fields set. -/
theorem test_decode_vectors :
    decode 0x0000#16 = .add 0 0 0 ∧ decode 0x00CA#16 = .add 3 1 2 ∧ decode 0x04CA#16 = .mul 3 1 2 ∧
    decode 0x06CA#16 = .div 3 1 2 ∧ decode 0x08CA#16 = .cmpEqual 3 1 2 ∧ decode 0x0ACA#16 = .cmpNeq 3 1 2 ∧
    decode 0x1DFF#16 = .unassignedR14 7 7 7 ∧ decode 0x1FFF#16 = .load 7 7 7 ∧ decode 0x200A#16 = .store 0 1 2 ∧
    decode 0x2200#16 = .unassignedR17 0 0 0 ∧ decode 0x7FFF#16 = .syscall 7 7 7 ∧ decode 0x83FF#16 = .jump 0 1023#16 ∧
    decode 0xFFFF#16 = .mov 7 1023#16 := by decide

/-- 95_test_vectors.md section 2.1, BitField. -/
theorem test_extract_vectors :
    extract 0xBEEF#16 15 1 = 1#16 ∧ extract 0xBEEF#16 9 6 = 0x1F#16 ∧ extract 0xBEEF#16 0 10 = 0x2EF#16 ∧
    extract 0xBEEF#16 0 0 = 0#16 ∧ extract 0xBEEF#16 0 17 = 0xBEEF#16 ∧ extract 0xBEEF#16 4 8 = 0xEE#16 := by decide

/-- 30_encoding.md R74 and the words of 95_test_vectors.md section 3. -/
theorem test_assemble_words :
    assemble (.add 3 1 2) = 0x00CA#16 ∧ assemble (.load 6 5) = 0x1FA8#16 ∧ assemble (.store 5 2) = 0x202A#16 ∧
    assemble .syscall = 0x7E00#16 ∧ assemble (.jumpCond 1 3) = 0xA403#16 ∧ assemble (.mov 5 100) = 0xF464#16 ∧
    assemble (.sub 5 0 2) = 0x0342#16 := by decide

/-! ### Steps -/

/-- The reset state with the word `w` at `pc` and the registers listed. -/
def stateAt (pc w : Word) (regs : List (RegIdx × Word)) : State :=
  regs.foldl (fun s r => s.writeReg r.1 r.2) { State.reset with pc := pc, mem := Memory.write [] pc.toNat w }

/-- Does a step answer a next state that passes the test? -/
def steps (s : State) (test : State → Bool) : Bool :=
  match step s with
  | .next t => test t
  | .fault _ => false
  | .refused _ => false

/-- Does an instruction's execute answer a next state that passes the test? -/
def executes (i : Instr) (s : State) (test : State → Bool) : Bool :=
  match exec i s with
  | .next t => test t
  | .fault _ => false
  | .refused _ => false

/-- Does a word that names R3, R1 and R2, run at index 5 with R1 = a and R2 = b, write r to R3 and go on at index 6? -/
def aluGives (w a b r : Word) : Bool :=
  steps (stateAt 5#16 w [(1, a), (2, b)]) (fun t => t.readReg 3 == r && t.pc == 6#16 && t.run == .running)

/-! 95_test_vectors.md section 2.2. -/

theorem test_add_vectors :
    aluGives 0x00CA#16 0xFFFF#16 0x0002#16 0x0001#16 = true ∧
    aluGives 0x00CA#16 0x7FFF#16 0x0001#16 0x8000#16 = true := by decide

theorem test_sub_vectors :
    aluGives 0x02CA#16 0x0003#16 0x0005#16 0xFFFE#16 = true ∧
    aluGives 0x02CA#16 0x8000#16 0x0001#16 0x7FFF#16 = true := by decide

theorem test_mul_vectors :
    aluGives 0x04CA#16 0xFFFF#16 0xFFFF#16 0x0001#16 = true ∧
    aluGives 0x04CA#16 0x0200#16 0x0040#16 0x8000#16 = true := by decide

theorem test_div_vectors :
    aluGives 0x06CA#16 0xFFFE#16 0xFFFF#16 0x0000#16 = true ∧
    aluGives 0x06CA#16 0x000A#16 0x0000#16 0x0000#16 = true ∧
    aluGives 0x06CA#16 0xFFFF#16 0x0002#16 0x7FFF#16 = true := by decide

theorem test_cmp_equal_vectors :
    aluGives 0x08CA#16 0x0007#16 0x0007#16 0x0001#16 = true ∧
    aluGives 0x08CA#16 0x8000#16 0x0000#16 0x0000#16 = true := by decide

theorem test_cmp_neq_vectors :
    aluGives 0x0ACA#16 0x0007#16 0x0007#16 0x0000#16 = true ∧
    aluGives 0x0ACA#16 0x8000#16 0x0000#16 0x0001#16 = true := by decide

/-- A source that is also the destination is read first (95_test_vectors.md section 2.2). -/
theorem test_same_register :
    steps (stateAt 1#16 0x0049#16 [(1, 0x8001#16)]) (fun t => t.readReg 1 == 0x0002#16) = true ∧
    steps (stateAt 1#16 0x0649#16 [(1, 0#16)]) (fun t => t.readReg 1 == 0#16) = true := by decide

/-- 95_test_vectors.md section 2.3: the last index in range. -/
theorem test_load_last_index :
    steps { stateAt 1#16 0x1EC8#16 [(1, 32767#16)] with mem := [(1, 0x1EC8#16), (32767, 0xABCD#16)] }
      (fun t => t.readReg 3 == 0xABCD#16 && t.pc == 2#16) = true := by decide

/-- 95_test_vectors.md section 2.3: the first index out of range. -/
theorem test_load_out_of_range :
    steps (stateAt 1#16 0x1EC8#16 [(1, 32768#16), (3, 0x0777#16)]) (fun t =>
      t.run == .faulted ⟨.loadOutOfRange, 32768⟩ && t.readReg 3 == 0x0777#16 && t.pc == 2#16 && t.cycles == 1 &&
      t.diag == [.fault .loadOutOfRange 32768]) = true := by decide

/-- 95_test_vectors.md section 2.3. -/
theorem test_store_and_next_fetch :
    steps (stateAt 10#16 0x200A#16 [(1, 11#16), (2, 0x7E00#16)]) (fun t =>
      t.mem == [(10, 0x200A#16), (11, 0x7E00#16)] && steps t (fun u => u.run == .halted && u.pc == 12#16)) = true := by
  decide

/-- 95_test_vectors.md section 2.3. -/
theorem test_store_out_of_range :
    steps (stateAt 1#16 0x200A#16 [(1, 0xFFFF#16)]) (fun t =>
      t.run == .faulted ⟨.storeOutOfRange, 65535⟩ && t.mem == [(1, 0x200A#16)]) = true := by decide

/-- 95_test_vectors.md section 2.4. -/
theorem test_syscall :
    steps (stateAt 4#16 0x7FFF#16 []) (fun t => t.run == .halted && t.pc == 5#16 && t.diag == []) = true ∧
    steps (stateAt 4#16 0x7E00#16 [(0, 0xFFFF#16)]) (fun t =>
      t.run == .running && t.pc == 5#16 && t.diag == [.warning .unimplementedService 65535]) = true := by decide

/-- 95_test_vectors.md section 2.5. -/
theorem test_jumps :
    steps (stateAt 2#16 0x9C05#16 []) (fun t => t.pc == 5#16) = true ∧
    steps (stateAt 5#16 0xA403#16 [(1, 0x8000#16)]) (fun t => t.pc == 3#16) = true ∧
    steps (stateAt 5#16 0xA403#16 []) (fun t => t.pc == 6#16 && t.run == .running) = true := by decide

/-- The configuration of 95_test_vectors.md section 2.5, with MEMORY_SIZE = 512. -/
def smallConfig : Config := { memorySize := 512, cycleLimit := 3000, resetPc := 1 }

/-- 95_test_vectors.md section 2.5: `jump 600` faults, `jump_cond R1, 600` not taken does not. -/
theorem test_jump_target_out_of_range :
    steps { stateAt 3#16 0x8258#16 [] with cfg := smallConfig } (fun t =>
      t.run == .faulted ⟨.jumpTargetOutOfRange, 600⟩ && t.pc == 4#16) = true ∧
    steps { stateAt 3#16 0xA658#16 [] with cfg := smallConfig } (fun t => t.run == .running && t.pc == 4#16) = true := by
  decide

/-- 95_test_vectors.md S10: the Executor's check on an abstract target. -/
theorem test_jump_abstract_target :
    executes (.jump 0 40000#16) State.reset (fun t =>
      t.run == .faulted ⟨.jumpTargetOutOfRange, 40000⟩ && t.pc == 1#16) = true := by decide

/-- 95_test_vectors.md section 2.6. -/
theorem test_mov :
    steps (stateAt 1#16 0xE405#16 [(1, 0xFFFF#16)]) (fun t => t.readReg 1 == 5#16) = true ∧
    steps (stateAt 1#16 0xFFFF#16 []) (fun t => t.readReg 7 == 0x03FF#16) = true := by decide

/-- 95_test_vectors.md section 2.7. -/
theorem test_unassigned :
    steps (stateAt 1#16 0x7DFF#16 []) (fun t =>
      t.pc == 2#16 && t.run == .running && t.diag == [.warning .unrecognizedOpcodeR 62]) = true ∧
    steps (stateAt 7#16 0xC3FF#16 []) (fun t =>
      t.pc == 8#16 && t.diag == [.warning .unrecognizedOpcodeI 2]) = true := by decide

/-- 95_test_vectors.md section 2.8: the PC check, and the last word of memory. -/
theorem test_pc_check :
    steps { State.reset with pc := 32768#16, cycles := 7 } (fun t =>
      t.run == .faulted ⟨.pcOutOfRange, 32768⟩ && t.pc == 32768#16 && t.cycles == 7) = true ∧
    steps { State.reset with pc := 32767#16 } (fun t => t.run == .running && t.pc == 32768#16 && t.cycles == 1) = true := by
  decide

/-- 95_test_vectors.md section 2.8: the ceiling, below a halt and an AddressFault and after a warning. -/
theorem test_ceiling :
    steps { stateAt 1#16 0xE407#16 [] with cycles := 3000 } (fun t => t.readReg 1 == 7#16 && t.cycles == 3001 &&
      t.run == .faulted ⟨.resourceExhaustion, 3000⟩) = true ∧
    steps { stateAt 1#16 0x7E00#16 [] with cycles := 3000 } (fun t => t.run == .halted && t.cycles == 3001) = true ∧
    steps { stateAt 1#16 0x1E88#16 [(1, 0x8000#16)] with cycles := 3000 } (fun t =>
      t.diag == [.fault .loadOutOfRange 32768]) = true ∧
    steps { stateAt 1#16 0x0C00#16 [] with cycles := 3000 } (fun t =>
      t.diag == [.warning .unrecognizedOpcodeR 6, .fault .resourceExhaustion 3000]) = true := by decide

/-- 70_reset_and_hazards.md R200, R202, R203: State.reset is the reset with a one-word image of 0; an image is placed from
index 0; no words, no cycle. -/
theorem test_reset :
    State.load Config.standard [0#16] = State.reset ∧
    (State.load Config.standard [0#16, 0xE405#16, 0#16, 0x7E00#16]).mem = [(1, 0xE405#16), (3, 0x7E00#16)] ∧
    (State.load Config.standard []).run = .halted ∧
    (State.resetFrom { memorySize := 2, cycleLimit := 0, resetPc := 1 } [1#16, 2#16, 3#16] true).mem =
      [(0, 1#16), (1, 2#16)] := by decide

/-- 60_exceptions.md R181, 93_implementation_defined.md row 9. -/
theorem test_observe :
    (State.observe { State.reset with pc := 32768#16 }).map Snapshot.pcByte = some 65536 ∧
    State.observe { State.reset with run := .halted } = none ∧
    (State.faultOutput { State.reset with run := .faulted ⟨.pcOutOfRange, 32768⟩ }) = some ⟨.pcOutOfRange, 32768⟩ := by
  decide

/-- 60_exceptions.md R171: codes and classes. -/
theorem test_fault_codes :
    [FaultCause.pcOutOfRange, .loadOutOfRange, .storeOutOfRange, .jumpTargetOutOfRange, .resourceExhaustion].map
      FaultCause.code = [1, 2, 3, 4, 5] ∧
    FaultCause.jumpTargetOutOfRange.faultClass = .addressFault ∧
    FaultCause.resourceExhaustion.faultClass = .resourceExhaustion := by decide

/-- The memory's canonical form: a write of 0 lists nothing, and a later write of a lower index stands before. -/
theorem test_memory_form :
    Memory.write (Memory.write [] 5 1#16) 5 0#16 = [] ∧
    Memory.write (Memory.write [] 5 1#16) 3 2#16 = [(3, 2#16), (5, 1#16)] ∧
    Memory.wf [(5, 1#16), (3, 2#16)] = false ∧ Memory.wf [(3, 0#16)] = false := by decide

/-- The host's placement: the word is the first instruction after reset. -/
theorem test_withFetchWord :
    decodeTableWord 16 0xE405 = some (.mov 1 5#16) ∧
    steps (State.reset.withFetchWord 16 0xE405) (fun t => t.readReg 1 == 5#16) = true := by decide

/-! ### States and operands that meet the statements' hypotheses -/

/-- FormatRFieldPlaces and FormatIFieldPlaces, at the words where they meet. -/
theorem witness_formats : (0x7FFF#16).toNat < 32768 ∧ 32768 ≤ (0x8000#16).toNat := by decide

/-- ExtractIsIdempotent (a length of 16), EncodeOfDecode, MovResult and the decoding clauses of the FormatI statements (the
largest immediate), DecodeOfEncode and EachWordIsOneInstruction. -/
theorem witness_encoding :
    16 ≤ 16 ∧ (1023#16).toNat < 1024 ∧ (Instr.jumpCond 7 1023#16).wellFormed = true := by decide

/-- DivResult: a divisor of 0, and one of 1. -/
theorem witness_div :
    ((stateAt 1#16 0#16 []).readReg 2).toNat = 0 ∧ ((stateAt 1#16 0#16 [(2, 1#16)]).readReg 2).toNat ≠ 0 := by decide

/-- CmpEqualResult and CmpNeqResult: equal values, and values that differ in bit 15 alone. -/
theorem witness_compare :
    (stateAt 1#16 0#16 []).readReg 1 = (stateAt 1#16 0#16 []).readReg 2 ∧
    (stateAt 1#16 0#16 [(1, 0x8000#16)]).readReg 1 ≠ (stateAt 1#16 0#16 [(1, 0x8000#16)]).readReg 2 := by decide

/-- MemReadPrimitive and MemWriteChangesOneCell: the last index in range and the first out of range. -/
theorem witness_memory :
    (32767#16).toNat < State.reset.cfg.memorySize ∧ State.reset.cfg.memorySize ≤ (32768#16).toNat ∧
    State.reset.mem.wf = true := by decide

/-- LoadResult and StoreResult: the last index in range and the first out of range. -/
theorem witness_load_store :
    let s := stateAt 1#16 0#16 [(1, 32767#16)]
    let t := stateAt 1#16 0#16 [(1, 32768#16)]
    s.mem.wf = true ∧ (s.readReg 1).toNat < s.cfg.memorySize ∧ t.mem.wf = true ∧
      t.cfg.memorySize ≤ (t.readReg 1).toNat := by decide

/-- StoreSeenByNextFetch: a store at index 10 to index 11, in the last cycle but one below the ceiling. -/
theorem witness_store_next :
    let s := { stateAt 10#16 0x200A#16 [(1, 11#16), (2, 0x7E00#16)] with cycles := 2999 }
    s.cfg.Valid ∧ s.mem.wf = true ∧ s.run = .running ∧ s.cycles < s.cfg.cycleLimit ∧
      s.pc.toNat + 1 < s.cfg.memorySize ∧ decode (s.mem.read s.pc.toNat) = .store 0 1 2 ∧
      (s.readReg 1).toNat = s.pc.toNat + 1 := by decide

/-- SyscallResult: service 0 and service 1. -/
theorem witness_syscall :
    State.reset.readReg 0 = 0#16 ∧ (stateAt 1#16 0#16 [(0, 1#16)]).readReg 0 ≠ 0#16 := by decide

/-- JumpResult and JumpCondResult: the last target in range and the first out of range of the small configuration, a target out
of range of the standard one, and both values of the condition. -/
theorem witness_jump :
    let s := { stateAt 1#16 0#16 [(1, 1#16)] with cfg := smallConfig }
    (511#16).toNat < s.cfg.memorySize ∧ s.cfg.memorySize ≤ (512#16).toNat ∧ s.readReg 1 ≠ 0#16 ∧
      s.readReg 2 = 0#16 ∧ (512#16).toNat < 1024 ∧ State.reset.cfg.memorySize ≤ (40000#16).toNat := by decide

/-- UnassignedRIsWarning and UnusedFieldsIgnored: the first and the last of the list. -/
theorem witness_unassigned :
    (Instr.unassignedR6, 6) ∈ unassignedR ∧ (Instr.unassignedR62, 62) ∈ unassignedR := by
  simp [unassignedR, unassignedLow, unassignedMiddle, unassignedHigh]

/-- OnlyDestinationRegisterChanges, OnlyStoreChangesMemory and OnlyJumpsChangePc: instructions that do change something. -/
theorem witness_changes :
    executes (.mov 1 5#16) State.reset (fun t => t.readReg 1 != State.reset.readReg 1) = true ∧
    executes (.store 0 1 1) (stateAt 1#16 0#16 [(1, 9#16)]) (fun t => t.mem.read 9 != 0#16) = true ∧
    executes (.jump 0 9#16) State.reset (fun t => t.pc != State.reset.pc) = true ∧
    (stateAt 1#16 0#16 [(1, 9#16)]).mem.wf = true := by decide

/-- StepRunsDecodedInstruction, PcIncrementNeverWraps, EveryExecuteIsCounted: the last word of memory. -/
theorem witness_cycle :
    let s := { State.reset with pc := 32767#16 }
    s.run = .running ∧ s.pc.toNat < s.cfg.memorySize ∧ s.cfg.Valid ∧ decode (s.mem.read s.pc.toNat) = .add 0 0 0 := by
  decide

/-- PcOutOfRangeFaults: the first index out of range. -/
theorem witness_pc_check :
    let s := { State.reset with pc := 32768#16 }
    s.run = .running ∧ s.cfg.memorySize ≤ s.pc.toNat := by decide

/-- Do the hypotheses of CeilingOnlyWhileRunning hold of `s`, and does the state after execute pass the test? -/
def ceilingPremises (s : State) (test : State → Bool) : Bool :=
  s.run == .running && decide (s.pc.toNat < s.cfg.memorySize) &&
    executes (decode (s.mem.read s.pc.toNat)) s.advancePc test

/-- CeilingOnlyWhileRunning: an execute that leaves the run Running just below the ceiling and at it, and one that halts. -/
theorem witness_ceiling :
    ceilingPremises { State.reset with cycles := 2999 } (fun u => u.run == .running && decide (2999 < u.cfg.cycleLimit)) =
      true ∧
    ceilingPremises { State.reset with cycles := 3000 } (fun u => u.run == .running && decide (u.cfg.cycleLimit ≤ 3000)) =
      true ∧
    ceilingPremises (stateAt 1#16 0x7E00#16 []) (fun u => u.run != .running) = true := by decide

/-- TerminalStatesAreFrozen and ObserverSnapshots: both terminal states, and a running one. -/
theorem witness_terminal :
    { State.reset with run := .halted }.run.terminal = true ∧
    { State.reset with run := .faulted ⟨.resourceExhaustion, 3000⟩ }.run.terminal = true ∧
    State.reset.run = .running := by decide

/-- HaltedOnlyBySyscallZero: a step that halts. -/
theorem witness_halted :
    (stateAt 1#16 0x7E00#16 []).run = .running ∧
    steps (stateAt 1#16 0x7E00#16 []) (fun t => t.run == .halted) = true := by decide

/-- AddressFaultsArePrecise: a step that raises each of the four AddressFaults. -/
theorem witness_address_faults :
    { State.reset with pc := 32768#16 }.run = .running ∧
    steps { State.reset with pc := 32768#16 } (fun t => t.run == .faulted ⟨.pcOutOfRange, 32768⟩) = true ∧
    (stateAt 1#16 0x1EC8#16 [(1, 32768#16)]).run = .running ∧
    steps (stateAt 1#16 0x1EC8#16 [(1, 32768#16)]) (fun t => t.run == .faulted ⟨.loadOutOfRange, 32768⟩) = true ∧
    steps (stateAt 1#16 0x200A#16 [(1, 32768#16)]) (fun t => t.run == .faulted ⟨.storeOutOfRange, 32768⟩) = true ∧
    steps { stateAt 1#16 0x8200#16 [] with cfg := smallConfig } (fun t =>
      t.run == .faulted ⟨.jumpTargetOutOfRange, 512⟩) = true := by decide

/-- EventsOfOneIteration: steps with no event, one, and two. -/
theorem witness_events :
    steps State.reset (fun t => t.diag == []) = true ∧
    steps (stateAt 1#16 0x0C00#16 []) (fun t => t.diag == [.warning .unrecognizedOpcodeR 6]) = true ∧
    steps { stateAt 1#16 0x0C00#16 [] with cycles := 3000 } (fun t => t.diag.length == 2) = true := by decide

/-- StepKeepsInvariant: a state that has the invariant and whose step answers (ResetHasInvariant is the statement for every
reset; its configuration is valid). -/
theorem witness_invariant : Inv State.reset ∧ steps State.reset (fun _ => true) = true ∧ Config.standard.Valid ∧
    smallConfig.Valid := by
  refine ⟨⟨by decide, by decide, by decide, by decide, by decide, by decide, ?_, ?_, ?_⟩, by decide, by decide, by decide⟩
  · intro r h; cases h
  · intro r h; cases h
  · intro e h; cases h

/-- EveryRunEndsByTheCeiling: from reset, 3001 iterations. -/
theorem witness_run_length : 0 < 3001 ∧ State.reset.cfg.cycleLimit + 1 ≤ State.reset.cycles + 3001 := by decide

/-- StandardStepKeepsPcBound: a state that has it. -/
theorem witness_standard : InvStandard State.reset :=
  ⟨rfl, by decide, by decide, fun _ => by simp [State.reset], fun _ => by simp [State.reset]⟩

/-- RegistersZeroAtReset: R1 in the first two iterations from State.reset, both of them `add R0, R0, R0`. -/
theorem witness_unwritten_register (k : Nat) (u : State) (hk : k < 2)
    (h : Sys2Proof.core.run k (State.resetFrom Config.standard [] true) = .next u) :
    destination (decode (u.mem.read u.pc.toNat)) ≠ some 1 := by
  have reads (s t : State) (hs : step s = .next t) (g : Sys2Proof.core.run 1 s = .next u) : u = t := by
    rw [core_run_succ 0 hs, core_run_zero] at g
    exact (Host.Outcome.next.inj g).symm
  match k, hk with
  | 0, _ =>
    rw [core_run_zero] at h
    rw [← Host.Outcome.next.inj h]
    decide
  | 1, _ =>
    rw [reads (State.resetFrom Config.standard [] true)
      { State.resetFrom Config.standard [] true with pc := 2#16, cycles := 1 } (by rfl) h]
    decide

/-- PcAtReset: the standard configuration and one whose RESET_PC is the last index. -/
theorem witness_reset_pc : Config.standard.Valid ∧ (Config.mk 32768 3000 32767).Valid := by decide

/-- ResetHoldsImage: indices inside and outside the memory. -/
theorem witness_reset_image : 32767 < Config.standard.memorySize ∧ ¬32768 < Config.standard.memorySize := by decide

end Sys2Proof.Tests
end

section
/-! The pc at reset (10_state.md R28). -/

namespace Sys2Proof.Machine

@[simp] theorem State.resetFrom_pc (cfg : Config) (image : List Word) (hasWords : Bool) :
    (State.resetFrom cfg image hasWords).pc = BitVec.ofNat 16 cfg.resetPc := rfl

/-- The constraints of 00_scope.md R9 make RESET_PC a word, so that narrowing it to 16 bits at reset loses nothing. -/
theorem resetPc_lt_of_valid {cfg : Config} (hvalid : cfg.Valid) : cfg.resetPc < 2 ^ 16 := by
  obtain ⟨-, hsize, hpc⟩ := hvalid
  omega

/-- Settles O50: a valid RESET_PC survives the narrowing to a word; the standard one is 1, and `State.reset` has it. -/
theorem pcAtReset : Obligations.PcAtReset := by
  refine ⟨fun cfg image hasWords hvalid => ?valid, fun image hasWords => ?standard, ?reset⟩
  case valid =>
    rw [State.resetFrom_pc, BitVec.toNat_ofNat, Nat.mod_eq_of_lt (resetPc_lt_of_valid hvalid)]
  case standard => exact State.resetFrom_pc Config.standard image hasWords
  case reset => rfl

end Sys2Proof.Machine
end

section
/-! The decoder and the encoder on integers (30_encoding.md R61 to R66): each field by division and remainder, each word as
the sum of its fields at their places. -/

namespace Sys2Proof

/-! ### BitField (R61) -/

/-- The mask of a field is all ones up to its clamped length. -/
theorem fieldMask_toNat (length : Nat) : (fieldMask length).toNat = 2 ^ min length 16 - 1 := by
  by_cases hwide : 16 ≤ length
  · rw [fieldMask, if_pos hwide, Nat.min_eq_right hwide]
    rfl
  · have hlt : 2 ^ length < 2 ^ 16 := Nat.pow_lt_pow_right (by omega) (by omega)
    rw [fieldMask, if_neg hwide, Nat.min_eq_left (by omega), BitVec.toNat_ofNat]
    exact Nat.mod_eq_of_lt (by omega)

/-- Shift and mask are a division and a remainder. -/
theorem extract_toNat (value : Word) (start : Fin 16) (length : Nat) :
    (extract value start length).toNat = value.toNat / 2 ^ start.val % 2 ^ min length 16 := by
  by_cases hzero : length = 0
  · subst hzero
    simp [extract, Nat.mod_one]
  · rw [extract, if_neg hzero, BitVec.toNat_and, BitVec.toNat_ushiftRight, fieldMask_toNat,
      Nat.and_two_pow_sub_one_eq_mod, Nat.shiftRight_eq_div_pow]

/-- Settles O1, for every start and every length, the clamped ones among them. -/
theorem extractIsFieldSlice : Obligations.ExtractIsFieldSlice := extract_toNat

/-- A register field is three bits, so naming a register by it loses nothing (R68). -/
theorem registerField_val (w : Word) (start : Fin 16) :
    (registerField w start).val = w.toNat / 2 ^ start.val % 8 := by
  rw [registerField, Fin.val_ofNat, extract_toNat]
  exact Nat.mod_mod _ 8

/-! ### The format (R62) -/

theorem extract_bit15_toNat (w : Word) : (extract w 15 1).toNat = w.toNat / 32768 := by
  have hw := w.isLt
  calc (extract w 15 1).toNat = w.toNat / 32768 % 2 := extract_toNat w 15 1
    _ = w.toNat / 32768 := by omega

theorem extract_bit15_eq_zero_iff (w : Word) : extract w 15 1 = 0#16 ↔ w.toNat < 32768 := by
  rw [← BitVec.toNat_inj, extract_bit15_toNat, BitVec.toNat_ofNat]
  omega

theorem extract_bit15_eq_one_iff (w : Word) : extract w 15 1 = 1#16 ↔ 32768 ≤ w.toNat := by
  have hw := w.isLt
  rw [← BitVec.toNat_inj, extract_bit15_toNat, BitVec.toNat_ofNat]
  omega

theorem classify_of_lt {w : Word} (h : w.toNat < 32768) : classify w = .R (decodeFormatR w) :=
  if_pos ((extract_bit15_eq_zero_iff w).2 h)

theorem classify_of_le {w : Word} (h : 32768 ≤ w.toNat) : classify w = .I (decodeFormatI w) :=
  if_neg (mt (extract_bit15_eq_zero_iff w).1 (by omega))

theorem classify_isR_iff (w : Word) : (∃ f, classify w = .R f) ↔ w.toNat < 32768 := by
  refine ⟨fun ⟨f, hf⟩ => ?_, fun h => ⟨_, classify_of_lt h⟩⟩
  by_contra hle
  rw [classify_of_le (by omega)] at hf
  cases hf

theorem classify_isI_iff (w : Word) : (∃ f, classify w = .I f) ↔ 32768 ≤ w.toNat := by
  refine ⟨fun ⟨f, hf⟩ => ?_, fun h => ⟨_, classify_of_le h⟩⟩
  by_contra hlt
  rw [classify_of_lt (by omega)] at hf
  cases hf

/-- Settles O3: bit 15 is the quotient by 0x8000, and the classifier tests that bit alone. -/
theorem formatIsBit15 : Obligations.FormatIsBit15 := fun w =>
  ⟨extract_bit15_toNat w,
    (extract_bit15_eq_zero_iff w).trans (classify_isR_iff w).symm,
    (extract_bit15_eq_one_iff w).trans (classify_isI_iff w).symm,
    (classify_isR_iff w).trans Nat.lt_succ_iff,
    classify_isI_iff w⟩

/-! ### The fields of a decoded word (R63, R64) -/

theorem decodeFormatR_opcode_toNat (w : Word) : (decodeFormatR w).opcode.toNat = w.toNat / 512 % 64 := by
  rw [decodeFormatR, BitVec.toNat_ofNat, extract_toNat]
  exact Nat.mod_mod _ 64

theorem decodeFormatR_rd_val (w : Word) : (decodeFormatR w).rd.val = w.toNat / 64 % 8 := registerField_val w 6

theorem decodeFormatR_rs1_val (w : Word) : (decodeFormatR w).rs1.val = w.toNat / 8 % 8 := registerField_val w 3

theorem decodeFormatR_rs2_val (w : Word) : (decodeFormatR w).rs2.val = w.toNat % 8 := by
  rw [decodeFormatR, registerField_val]
  exact congrArg (· % 8) (Nat.div_one _)

theorem decodeFormatI_opcode_toNat (w : Word) : (decodeFormatI w).opcode.toNat = w.toNat / 8192 % 4 := by
  rw [decodeFormatI, BitVec.toNat_ofNat, extract_toNat]
  exact Nat.mod_mod _ 4

theorem decodeFormatI_reg_val (w : Word) : (decodeFormatI w).reg.val = w.toNat / 1024 % 8 := registerField_val w 10

theorem decodeFormatI_immediate_toNat (w : Word) : (decodeFormatI w).immediate.toNat = w.toNat % 1024 := by
  rw [decodeFormatI, extract_toNat]
  exact congrArg (· % 1024) (Nat.div_one _)

/-- Settles O4: below 0x8000 the opcode is the whole quotient by 512, since bit 15 is 0. -/
theorem formatRFieldPlaces : Obligations.FormatRFieldPlaces := by
  intro w hw
  have hopcode : (decodeFormatR w).opcode.toNat = w.toNat / 512 := by
    rw [decodeFormatR_opcode_toNat]
    omega
  exact ⟨_, classify_of_lt hw, hopcode, decodeFormatR_rd_val w, decodeFormatR_rs1_val w, decodeFormatR_rs2_val w⟩

/-- Settles O5: from 0x8000 up the quotient by 8192 is the opcode with bit 15, which counts 4, above it. -/
theorem formatIFieldPlaces : Obligations.FormatIFieldPlaces := by
  intro w hw
  have hword := w.isLt
  have hopcode : (decodeFormatI w).opcode.toNat = w.toNat / 8192 - 4 := by
    rw [decodeFormatI_opcode_toNat]
    omega
  exact ⟨_, classify_of_le hw, hopcode, decodeFormatI_reg_val w, decodeFormatI_immediate_toNat w⟩

/-! ### The encoders as sums of fields (R66) -/

/-- Fields that do not overlap add up: the one is a multiple of 2^k, the other is below it. -/
theorem or_toNat_of_dvd_of_lt {high low : Word} {a b : Nat} (k : Nat) (hhigh : high.toNat = a) (hlow : low.toNat = b)
    (ha : 2 ^ k ∣ a) (hb : b < 2 ^ k) : (high ||| low).toNat = a + b := by
  obtain ⟨q, rfl⟩ := ha
  rw [BitVec.toNat_or, hhigh, hlow, Nat.two_pow_add_eq_or_of_lt hb]

/-- A field of `n` bits shifted to a place `k` with room for it loses no bit. -/
theorem shiftLeft_toNat_of_lt {field : Word} {a n : Nat} (k : Nat) (hfield : field.toNat = a) (ha : a < 2 ^ n)
    (hroom : n + k ≤ 16) : (field <<< k).toNat = a * 2 ^ k := by
  have hfits : a * 2 ^ k < 2 ^ 16 := calc
    a * 2 ^ k < 2 ^ n * 2 ^ k := Nat.mul_lt_mul_of_pos_right ha (Nat.two_pow_pos k)
    _ = 2 ^ (n + k) := (Nat.pow_add 2 n k).symm
    _ ≤ 2 ^ 16 := Nat.pow_le_pow_right (by omega) hroom
  rw [BitVec.toNat_shiftLeft, hfield, Nat.shiftLeft_eq, Nat.mod_eq_of_lt hfits]

theorem regIdx_ofNat_toNat (r : RegIdx) : (BitVec.ofNat 16 r.val).toNat = r.val :=
  Nat.mod_eq_of_lt (by omega)

theorem regIdx_shiftLeft_toNat (r : RegIdx) (k : Nat) (hroom : 3 + k ≤ 16) :
    (BitVec.ofNat 16 r.val <<< k).toNat = r.val * 2 ^ k :=
  shiftLeft_toNat_of_lt k (regIdx_ofNat_toNat r) r.isLt hroom

theorem opcode_shiftLeft_toNat {n : Nat} (opcode : BitVec n) (k : Nat) (hroom : n + k ≤ 16) :
    (opcode.setWidth 16 <<< k).toNat = opcode.toNat * 2 ^ k :=
  shiftLeft_toNat_of_lt k (BitVec.toNat_setWidth_of_le (by omega)) opcode.isLt hroom

theorem immediateMask_toNat (imm : Word) : (imm &&& 0x03FF#16).toNat = imm.toNat % 1024 :=
  Nat.and_two_pow_sub_one_eq_mod imm.toNat 10

/-- The FormatR encoder puts each field at its place. -/
theorem encodeR_toNat (opcode : BitVec 6) (rd rs1 rs2 : RegIdx) :
    (encodeR opcode rd rs1 rs2).toNat = Machine.formatRNumber opcode.toNat rd rs1 rs2 := by
  have hopcode := opcode_shiftLeft_toNat opcode 9 (by omega)
  have hrd := or_toNat_of_dvd_of_lt 9 hopcode (regIdx_shiftLeft_toNat rd 6 (by omega)) (by omega) (by omega)
  have hrs1 := or_toNat_of_dvd_of_lt 6 hrd (regIdx_shiftLeft_toNat rs1 3 (by omega)) (by omega) (by omega)
  exact or_toNat_of_dvd_of_lt 3 hrs1 (regIdx_ofNat_toNat rs2) (by omega) (by omega)

/-- The FormatI encoder sets bit 15 and puts each field at its place, if the immediate fits its own. -/
theorem encodeI_toNat (opcode : BitVec 2) (reg : RegIdx) {imm : Word} (himm : imm.toNat < 1024) :
    (encodeI opcode reg imm).toNat = Machine.formatINumber opcode.toNat reg imm.toNat := by
  have hbit15 : (0x8000#16).toNat = 32768 := rfl
  have hbound := opcode.isLt
  have hlow : (imm &&& 0x03FF#16).toNat = imm.toNat := (immediateMask_toNat imm).trans (Nat.mod_eq_of_lt himm)
  have hopcode := or_toNat_of_dvd_of_lt 15 hbit15 (opcode_shiftLeft_toNat opcode 13 (by omega)) (by omega) (by omega)
  have hreg := or_toNat_of_dvd_of_lt 13 hopcode (regIdx_shiftLeft_toNat reg 10 (by omega)) (by omega) (by omega)
  exact or_toNat_of_dvd_of_lt 10 hreg hlow (by omega) (by omega)

/-! ### Encoding what was decoded (R66) -/

/-- A word's fields, at the places the decoder took them from, add up to the word. -/
theorem encode_classify (w : Word) : (classify w).encode = w := by
  apply BitVec.eq_of_toNat_eq
  by_cases hformat : w.toNat < 32768
  · rw [classify_of_lt hformat, Decoded.encode, encodeR_toNat, Machine.formatRNumber, decodeFormatR_opcode_toNat,
      decodeFormatR_rd_val, decodeFormatR_rs1_val, decodeFormatR_rs2_val]
    omega
  · have hword := w.isLt
    have hlow := decodeFormatI_immediate_toNat w
    rw [classify_of_le (by omega), Decoded.encode, encodeI_toNat _ _ (by omega), Machine.formatINumber,
      decodeFormatI_opcode_toNat, decodeFormatI_reg_val, hlow]
    omega

/-- The FormatR opcode map is undone by `encode`, at each of the 64 opcodes (R70). -/
theorem encode_formatR_toInstr (f : FormatR) : encode f.toInstr = encodeR f.opcode f.rd f.rs1 f.rs2 := by
  obtain ⟨⟨n, hn⟩, rd, rs1, rs2⟩ := f
  interval_cases n <;> rfl

/-- The FormatI opcode map is undone by `encode`, at each of the 4 opcodes (R71). -/
theorem encode_formatI_toInstr (f : FormatI) : encode f.toInstr = encodeI f.opcode f.reg f.immediate := by
  obtain ⟨⟨n, hn⟩, reg, imm⟩ := f
  interval_cases n <;> rfl

/-- Choosing the instruction loses nothing of the decoded record. -/
theorem encode_toInstr (d : Decoded) : encode d.toInstr = d.encode := by
  cases d with
  | R f => exact encode_formatR_toInstr f
  | I f => exact encode_formatI_toInstr f

/-- Settles O6: through the decoded record, whose fields at their places are the word. -/
theorem encodeOfDecode : Obligations.EncodeOfDecode :=
  ⟨encodeR_toNat, fun opcode reg _ => encodeI_toNat opcode reg,
    fun w => ⟨encode_classify w, (encode_toInstr (classify w)).trans (encode_classify w)⟩⟩

end Sys2Proof
end

section
/-! The count and the increment of a cycle (40_engine_cycle.md R83, R86). -/

namespace Sys2Proof.Machine

/-! ### The count (R86) -/

/-- No effect of an instruction touches the counter: counting is a step of its own, after execute. -/
theorem Effect.cycles_eq {s t : State} {i : Instr} (h : Effect s i t) : t.cycles = s.cycles := by
  cases h <;> rfl

/-- The end of a cycle counts once, whether or not the ceiling check then faults. -/
@[simp] theorem State.endCycle_cycles (t : State) : t.endCycle.cycles = t.cycles + 1 := by
  obtain ⟨-, hcount⟩ | ⟨-, -, hceiling⟩ := t.endCycle_cases
  · rw [hcount, State.countCycle_cycles]
  · rw [hceiling, State.raise_cycles, State.countCycle_cycles]

/-- Settles O38: execute, whatever its effect, leaves the counter to the end of the cycle. -/
theorem everyExecuteIsCounted : Obligations.EveryExecuteIsCounted := by
  intro s hrun hpc
  obtain ⟨u, hexec, heffect⟩ := exec_effect s.currentInstr s.advancePc
  refine ⟨u.endCycle, step_of_exec hrun hpc hexec, ?_⟩
  calc u.endCycle.cycles = u.cycles + 1 := u.endCycle_cycles
    _ = s.advancePc.cycles + 1 := by rw [heffect.cycles_eq]
    _ = s.cycles + 1 := by rw [State.advancePc_cycles]

/-! ### The increment (R83) -/

/-- A running state whose pc is in range passes the PC check, so its step is a whole cycle. -/
theorem step_of_running {s : State} (hrun : s.run = .running) (hpc : s.pc.toNat < s.cfg.memorySize) :
    step s = finishCycle (exec s.currentInstr s.advancePc) := by
  simp only [step, hrun, s.pcInRange_iff.2 hpc, if_true]

/-- MEMORY_SIZE is at most 32768 (00_scope.md R9), so a pc in range is far from the last Word. -/
theorem State.advancePc_pc_toNat {s : State} (hvalid : s.cfg.Valid) (hpc : s.pc.toNat < s.cfg.memorySize) :
    s.advancePc.pc.toNat = s.pc.toNat + 1 := by
  obtain ⟨-, hsize, -⟩ := hvalid
  exact BitVec.toNat_add_of_lt (show s.pc.toNat + 1 < 2 ^ 16 by omega)

/-- Settles O37: execute gets the state with its pc advanced, which is at most MEMORY_SIZE. -/
theorem pcIncrementNeverWraps : Obligations.PcIncrementNeverWraps := by
  intro s hvalid hrun hpc
  have hnext : s.advancePc.pc.toNat = s.pc.toNat + 1 := State.advancePc_pc_toNat hvalid hpc
  obtain ⟨-, hsize, -⟩ := hvalid
  exact ⟨s.advancePc, hnext, by omega, by omega, rfl, step_of_running hrun hpc⟩

end Sys2Proof.Machine
end

section
/-! The ALU instructions (41_alu.md R101 to R103, R105, R106): their words, by the sum of fields, and their results, by the one
register that an ALU instruction writes. -/

namespace Sys2Proof.Machine

/-! ### The word of a FormatR instruction (30_encoding.md R63) -/

/-- The fields at their places are less than 0x8000, so a FormatR number is a word with bit 15 clear. -/
theorem formatRNumber_lt (opcode : BitVec 6) (rd rs1 rs2 : RegIdx) : formatRNumber opcode.toNat rd rs1 rs2 < 32768 := by
  have hopcode : opcode.toNat < 64 := opcode.isLt
  rw [formatRNumber]
  omega

/-- Narrowing a FormatR number to a word loses nothing. -/
theorem formatRNumber_toNat (opcode : BitVec 6) (rd rs1 rs2 : RegIdx) :
    (BitVec.ofNat 16 (formatRNumber opcode.toNat rd rs1 rs2)).toNat = formatRNumber opcode.toNat rd rs1 rs2 := by
  have hlt := formatRNumber_lt opcode rd rs1 rs2
  exact Nat.mod_eq_of_lt (by omega)

/-- Each field of a FormatR number is read back from its own place. -/
theorem decodeFormatR_formatRNumber (opcode : BitVec 6) (rd rs1 rs2 : RegIdx) :
    decodeFormatR (BitVec.ofNat 16 (formatRNumber opcode.toNat rd rs1 rs2)) = ⟨opcode, rd, rs1, rs2⟩ := by
  have hbound : opcode.toNat < 64 := opcode.isLt
  have hword := formatRNumber_toNat opcode rd rs1 rs2
  rw [FormatR.mk.injEq]
  refine ⟨BitVec.eq_of_toNat_eq ?opcodeField, Fin.ext ?rdField, Fin.ext ?rs1Field, Fin.ext ?rs2Field⟩
  case opcodeField => rw [decodeFormatR_opcode_toNat, hword, formatRNumber]; omega
  case rdField => rw [decodeFormatR_rd_val, hword, formatRNumber]; omega
  case rs1Field => rw [decodeFormatR_rs1_val, hword, formatRNumber]; omega
  case rs2Field => rw [decodeFormatR_rs2_val, hword, formatRNumber]; omega

/-- A FormatR number decodes to the row of its opcode, with its three registers (R70). -/
theorem decode_formatRNumber (opcode : BitVec 6) (rd rs1 rs2 : RegIdx) :
    decode (BitVec.ofNat 16 (formatRNumber opcode.toNat rd rs1 rs2)) = FormatR.toInstr ⟨opcode, rd, rs1, rs2⟩ := by
  have hformat : (BitVec.ofNat 16 (formatRNumber opcode.toNat rd rs1 rs2)).toNat < 32768 := by
    rw [formatRNumber_toNat]
    exact formatRNumber_lt opcode rd rs1 rs2
  rw [decode, classify_of_lt hformat, decodeFormatR_formatRNumber, Decoded.toInstr]

/-! ### The frame (R100) -/

/-- A register write changes that register alone. -/
theorem State.writeReg_onlyRegister (s : State) (rd : RegIdx) (v : Word) : OnlyRegister s (s.writeReg rd v) rd v where
  value := s.readReg_writeReg_same rd v
  others _ hother := s.readReg_writeReg_other v hother
  cfg := s.writeReg_cfg rd v
  pc := s.writeReg_pc rd v
  mem _ := by rw [State.writeReg_mem]
  run := s.writeReg_run rd v
  cycles := s.writeReg_cycles rd v
  diag := s.writeReg_diag rd v

/-- An ALU computation changes rd alone, to the function of the values from before the write, also when rd is a source
(10_state.md R23). -/
theorem State.binary_onlyRegister (s : State) (f : Word → Word → Word) (rd rs1 rs2 : RegIdx) :
    OnlyRegister s (s.binary f rd rs1 rs2) rd (f (s.readReg rs1) (s.readReg rs2)) := by
  rw [State.binary_eq]
  exact s.writeReg_onlyRegister rd _

/-! ### The results -/

/-- Settles O12: opcode 0, the sum on integers, and the frame of an ALU computation. -/
theorem addResult : Obligations.AddResult :=
  ⟨decode_formatRNumber 0, fun rd rs1 rs2 s =>
    ⟨s.binary aluAdd rd rs1 rs2, _, rfl, aluAdd_toNat _ _, s.binary_onlyRegister aluAdd rd rs1 rs2⟩⟩

/-- Settles O13: opcode 1, the difference on integers, and the frame of an ALU computation. -/
theorem subResult : Obligations.SubResult :=
  ⟨decode_formatRNumber 1, fun rd rs1 rs2 s =>
    ⟨s.binary aluSub rd rs1 rs2, _, rfl, aluSub_toNat _ _, s.binary_onlyRegister aluSub rd rs1 rs2⟩⟩

/-- Settles O14: opcode 2, the product on integers, and the frame of an ALU computation. -/
theorem mulResult : Obligations.MulResult :=
  ⟨decode_formatRNumber 2, fun rd rs1 rs2 s =>
    ⟨s.binary aluMul rd rs1 rs2, _, rfl, aluMul_toNat _ _, s.binary_onlyRegister aluMul rd rs1 rs2⟩⟩

/-- Settles O16: opcode 4, the two outcomes of the comparison, and the frame of an ALU computation. -/
theorem cmpEqualResult : Obligations.CmpEqualResult :=
  ⟨decode_formatRNumber 4, fun rd rs1 rs2 s =>
    ⟨s.binary aluCmpEqual rd rs1 rs2, _, rfl,
      fun hequal => (aluCmpEqual_toNat _ _).trans (if_pos hequal),
      fun hdiffer => (aluCmpEqual_toNat _ _).trans (if_neg hdiffer),
      s.binary_onlyRegister aluCmpEqual rd rs1 rs2⟩⟩

/-- Settles O17: opcode 5, the two outcomes of the comparison, and the frame of an ALU computation. -/
theorem cmpNeqResult : Obligations.CmpNeqResult :=
  ⟨decode_formatRNumber 5, fun rd rs1 rs2 s =>
    ⟨s.binary aluCmpNeq rd rs1 rs2, _, rfl,
      fun hequal => (aluCmpNeq_toNat _ _).trans (if_pos hequal),
      fun hdiffer => (aluCmpNeq_toNat _ _).trans (if_neg hdiffer),
      s.binary_onlyRegister aluCmpNeq rd rs1 rs2⟩⟩

end Sys2Proof.Machine
end

section
/-! `mov` (45_mov.md R150): its word, by the sum of fields that every FormatI instruction shares, and the one register that it
writes. -/

namespace Sys2Proof.Machine

/-! ### The word of a FormatI instruction (30_encoding.md R64) -/

/-- Bit 15 is set and the other fields are less than 0x8000, so narrowing a FormatI number to a word loses nothing. -/
theorem formatINumber_toNat (opcode : BitVec 2) (reg : RegIdx) {imm : Word} (himm : imm.toNat < 1024) :
    (BitVec.ofNat 16 (formatINumber opcode.toNat reg imm.toNat)).toNat = formatINumber opcode.toNat reg imm.toNat := by
  rw [← encodeI_toNat opcode reg himm, BitVec.ofNat_toNat, BitVec.setWidth_eq]

theorem formatINumber_ge (opcode : Nat) (reg : RegIdx) (imm : Nat) : 32768 ≤ formatINumber opcode reg imm := by
  rw [formatINumber]
  omega

/-- Each field of a FormatI number is read back from its own place, the immediate zero-extended to a word (R67). -/
theorem decodeFormatI_formatINumber (opcode : BitVec 2) (reg : RegIdx) {imm : Word} (himm : imm.toNat < 1024) :
    decodeFormatI (BitVec.ofNat 16 (formatINumber opcode.toNat reg imm.toNat)) = ⟨opcode, reg, imm⟩ := by
  have hbound : opcode.toNat < 4 := opcode.isLt
  have hword := formatINumber_toNat opcode reg himm
  rw [FormatI.mk.injEq]
  refine ⟨BitVec.eq_of_toNat_eq ?opcodeField, Fin.ext ?regField, BitVec.eq_of_toNat_eq ?immediateField⟩
  case opcodeField => rw [decodeFormatI_opcode_toNat, hword, formatINumber]; omega
  case regField => rw [decodeFormatI_reg_val, hword, formatINumber]; omega
  case immediateField => rw [decodeFormatI_immediate_toNat, hword, formatINumber]; omega

/-- A FormatI number decodes to the row of its opcode, with its register and its immediate (R71). -/
theorem decode_formatINumber (opcode : BitVec 2) (reg : RegIdx) {imm : Word} (himm : imm.toNat < 1024) :
    decode (BitVec.ofNat 16 (formatINumber opcode.toNat reg imm.toNat)) = FormatI.toInstr ⟨opcode, reg, imm⟩ := by
  have hformat : 32768 ≤ (BitVec.ofNat 16 (formatINumber opcode.toNat reg imm.toNat)).toNat := by
    rw [formatINumber_toNat opcode reg himm]
    exact formatINumber_ge opcode.toNat reg imm.toNat
  rw [decode, classify_of_le hformat, decodeFormatI_formatINumber opcode reg himm, Decoded.toInstr]

/-! ### The result (R150) -/

/-- `mov` is a register write of its immediate. -/
theorem exec_mov (reg : RegIdx) (imm : Word) (s : State) : exec (.mov reg imm) s = .next (s.writeReg reg imm) := rfl

/-- Settles O26: opcode 3, the frame of a register write, and the bound of the immediate, which the register now holds. -/
theorem movResult : Obligations.MovResult := by
  intro reg imm s himm
  have honly : OnlyRegister s (s.writeReg reg imm) reg imm := s.writeReg_onlyRegister reg imm
  have hclear : ((s.writeReg reg imm).readReg reg).toNat < 1024 := by rwa [honly.value]
  exact ⟨decode_formatINumber 3 reg himm, s.writeReg reg imm, exec_mov reg imm s, honly, hclear⟩

end Sys2Proof.Machine
end

section
/-! Decoding what was encoded (30_encoding.md R65, R66, R70, R71): the word of an instruction is the number of its fields, so
the decoder reads every field back, and the opcode table's rows exclude one another. -/

namespace Sys2Proof

open Machine

/-! ### Decoding an encoded word (R66) -/

theorem encodeR_eq_ofNat (opcode : BitVec 6) (rd rs1 rs2 : RegIdx) :
    encodeR opcode rd rs1 rs2 = BitVec.ofNat 16 (formatRNumber opcode.toNat rd rs1 rs2) := by
  rw [← encodeR_toNat, BitVec.ofNat_toNat, BitVec.setWidth_eq]

theorem encodeI_eq_ofNat (opcode : BitVec 2) (reg : RegIdx) {imm : Word} (himm : imm.toNat < 1024) :
    encodeI opcode reg imm = BitVec.ofNat 16 (formatINumber opcode.toNat reg imm.toNat) := by
  rw [← encodeI_toNat opcode reg himm, BitVec.ofNat_toNat, BitVec.setWidth_eq]

theorem decode_encodeR (opcode : BitVec 6) (rd rs1 rs2 : RegIdx) :
    decode (encodeR opcode rd rs1 rs2) = FormatR.toInstr ⟨opcode, rd, rs1, rs2⟩ := by
  rw [encodeR_eq_ofNat, decode_formatRNumber]

theorem decode_encodeI (opcode : BitVec 2) (reg : RegIdx) {imm : Word} (himm : imm.toNat < 1024) :
    decode (encodeI opcode reg imm) = FormatI.toInstr ⟨opcode, reg, imm⟩ := by
  rw [encodeI_eq_ofNat opcode reg himm, decode_formatINumber opcode reg himm]

theorem immediateFits_iff (imm : Word) : immediateFits imm = true ↔ imm.toNat < 1024 := decide_eq_true_iff

/-- A FormatI instruction needs its immediate to fit (R67); a FormatR instruction is read back whatever its registers. -/
theorem decode_encode {i : Instr} (hi : i.wellFormed = true) : decode (encode i) = i := by
  cases i with
  | jump reg imm => exact decode_encodeI 0 reg ((immediateFits_iff imm).1 hi)
  | jumpCond reg imm => exact decode_encodeI 1 reg ((immediateFits_iff imm).1 hi)
  | unassignedI2 reg imm => exact decode_encodeI 2 reg ((immediateFits_iff imm).1 hi)
  | mov reg imm => exact decode_encodeI 3 reg ((immediateFits_iff imm).1 hi)
  | _ rd rs1 rs2 => exact decode_encodeR _ rd rs1 rs2

/-- Settles O7, by the two formats: each field is read back from its own place in the word. -/
theorem decodeOfEncode : Obligations.DecodeOfEncode := fun _ hi => decode_encode hi

/-! ### Every word is one instruction (R65, R66) -/

theorem encode_decode (w : Word) : encode (decode w) = w := (encode_toInstr (classify w)).trans (encode_classify w)

theorem formatR_toInstr_wellFormed (f : FormatR) : f.toInstr.wellFormed = true := by
  obtain ⟨⟨n, hn⟩, rd, rs1, rs2⟩ := f
  interval_cases n <;> rfl

theorem formatI_toInstr_wellFormed (f : FormatI) : f.toInstr.wellFormed = immediateFits f.immediate := by
  obtain ⟨⟨n, hn⟩, reg, imm⟩ := f
  interval_cases n <;> rfl

/-- A decoded immediate is a remainder by 1024, so it fits its field. -/
theorem decode_wellFormed (w : Word) : (decode w).wellFormed = true := by
  by_cases hformat : w.toNat < 32768
  · rw [decode, classify_of_lt hformat]
    exact formatR_toInstr_wellFormed _
  · have hlow := decodeFormatI_immediate_toNat w
    rw [decode, classify_of_le (by omega), Decoded.toInstr, formatI_toInstr_wellFormed, immediateFits_iff]
    omega

/-- Settles O8: encode and decode undo each other, on words and on well-formed instructions. -/
theorem eachWordIsOneInstruction : Obligations.EachWordIsOneInstruction := by
  refine fun w => ⟨decode_wellFormed w, fun i hi => ⟨fun hw => ?_, fun hd => ?_⟩⟩
  · rw [← hw, decode_encode hi]
  · rw [hd, encode_decode]

/-! ### The rows of the opcode table (R70, R71) -/

/-- The word of an instruction carries the fixed bits of its row. -/
theorem encode_matches (i : Instr) : encode i &&& i.tableBits.2 = i.tableBits.1 := by
  cases i with
  | jump reg imm => exact Laws.EncodingMatchesTable.jump reg imm
  | jumpCond reg imm => exact Laws.EncodingMatchesTable.jumpCond reg imm
  | mov reg imm => exact Laws.EncodingMatchesTable.mov reg imm
  | unassignedI2 reg imm => exact Laws.EncodingMatchesTable.unassignedI2 reg imm
  | _ rd rs1 rs2 => exact (Laws.encodeR_fixed_bits _ rd rs1 rs2).trans rfl

/-- Bit 15 of a row's match is the format, and the format says how many bits the opcode has (R62). -/
theorem tableBits_mask (i : Instr) : i.tableBits.2 = if i.tableBits.1.msb then 0xE000#16 else 0xFE00#16 := by
  cases i <;> simp [Instr.tableBits, BitVec.msb_eq_decide]

/-- Bit 15 is fixed in every row. -/
theorem msb_of_matches {w : Word} {i : Instr} (h : w &&& i.tableBits.2 = i.tableBits.1) : i.tableBits.1.msb = w.msb := by
  have hmask : i.tableBits.2.msb = true := by
    rw [tableBits_mask]
    split <;> rfl
  rw [← h, BitVec.msb_and, hmask, Bool.and_true]

/-- A word matches one row at most: bit 15 decides the mask, and the mask then leaves one match. -/
theorem tableBits_eq_of_matches {w : Word} {i j : Instr} (hi : w &&& i.tableBits.2 = i.tableBits.1)
    (hj : w &&& j.tableBits.2 = j.tableBits.1) : i.tableBits = j.tableBits := by
  have hmask : i.tableBits.2 = j.tableBits.2 := by
    rw [tableBits_mask i, tableBits_mask j, msb_of_matches hi, msb_of_matches hj]
  have hmatch : i.tableBits.1 = j.tableBits.1 := by rw [← hi, ← hj, hmask]
  exact Prod.ext hmatch hmask

theorem decode_matches (w : Word) : w &&& (decode w).tableBits.2 = (decode w).tableBits.1 := by
  simpa only [encode_decode] using encode_matches (decode w)

/-- Settles O9: a word carries the fixed bits of the row it decodes to, and of no second one. -/
theorem eachWordMatchesOneRow : Obligations.EachWordMatchesOneRow := by
  refine fun w i => ⟨fun hi => tableBits_eq_of_matches (decode_matches w) hi, fun hrow => ?_⟩
  rw [← hrow]
  exact decode_matches w

/-! ### Fields extracted again (95_test_vectors.md S1 to S3) -/

theorem extract_fromZero_toNat (value : Word) (length : Nat) :
    (extract value 0 length).toNat = value.toNat % 2 ^ min length 16 := by
  rw [extract_toNat]
  exact congrArg (· % 2 ^ min length 16) (Nat.div_one _)

theorem extract_all {length : Nat} (value : Word) (hlength : 16 ≤ length) : extract value 0 length = value := by
  apply BitVec.eq_of_toNat_eq
  rw [extract_fromZero_toNat, Nat.min_eq_right hlength, Nat.mod_eq_of_lt value.isLt]

theorem extract_extract (value : Word) (start : Fin 16) (length : Nat) :
    extract (extract value start length) 0 length = extract value start length := by
  apply BitVec.eq_of_toNat_eq
  rw [extract_fromZero_toNat, extract_toNat, Nat.mod_mod]

/-- Settles O2: a field is a remainder, and taking the same remainder again changes nothing. -/
theorem extractIsIdempotent : Obligations.ExtractIsIdempotent := fun value start length =>
  ⟨if_pos rfl, extract_all value, extract_extract value start length⟩

/-! ### Words and lines of assembly -/

/-- Settles O10, by running the decoder on the nine words. -/
theorem sampleWordsDecode : Obligations.SampleWordsDecode := by
  unfold Obligations.SampleWordsDecode
  decide

/-- An immediate as a line writes it fits its field (R74). -/
theorem immediateFits_ofNat (imm : Fin 1024) : immediateFits (BitVec.ofNat 16 imm.val) = true := by
  rw [immediateFits_iff, BitVec.toNat_ofNat]
  omega

/-- Settles O11: a line is the word of the instruction with 0 in the fields it does not name, and every such instruction is
well-formed. -/
theorem assembledLinesDecode : Obligations.AssembledLinesDecode := by
  refine ⟨fun rd rs1 rs2 => ?registers, ?syscall, fun reg imm => ?immediates, fun n => rfl⟩
  case registers =>
    exact ⟨decode_encode (i := .add rd rs1 rs2) rfl, decode_encode (i := .sub rd rs1 rs2) rfl,
      decode_encode (i := .mul rd rs1 rs2) rfl, decode_encode (i := .div rd rs1 rs2) rfl,
      decode_encode (i := .cmpEqual rd rs1 rs2) rfl, decode_encode (i := .cmpNeq rd rs1 rs2) rfl,
      decode_encode (i := .load rd rs1 0) rfl, decode_encode (i := .store 0 rs1 rs2) rfl⟩
  case syscall => rfl
  case immediates =>
    have himm := immediateFits_ofNat imm
    exact ⟨decode_encode (i := .jump 0 _) himm, decode_encode (i := .jumpCond reg _) himm,
      decode_encode (i := .mov reg _) himm⟩

end Sys2Proof
end

section
/-! The memory primitives and the instructions one by one (20_memory.md, 41_alu.md to 46_unrecognized.md): what `exec` answers,
and, for each update of the state, that it changes what it names alone. -/

namespace Sys2Proof.Machine

/-! ### What each update leaves unchanged -/

theorem SameState.refl (s : State) : SameState s s :=
  ⟨rfl, fun _ => rfl, rfl, fun _ => rfl, rfl, rfl, rfl⟩

theorem State.setPc_onlyPc (s : State) (target : Word) : OnlyPc s (s.setPc target) target where
  value := s.setPc_pc target
  cfg := s.setPc_cfg target
  regs := s.readReg_setPc target
  mem _ := by rw [State.setPc_mem]
  run := s.setPc_run target
  cycles := s.setPc_cycles target
  diag := s.setPc_diag target

/-- The canonical form is what makes the other cells read as before. -/
theorem State.setCell_onlyCell {s : State} (hwf : s.mem.wf = true) (index value : Word) :
    OnlyCell s (s.setCell index value) index.toNat value where
  value := Memory.read_write_same hwf index.toNat value
  others _ hother := Memory.read_write_other hwf value (Ne.symm hother)
  cfg := s.setCell_cfg index value
  regs := s.readReg_setCell index value
  pc := s.setCell_pc index value
  run := s.setCell_run index value
  cycles := s.setCell_cycles index value
  diag := s.setCell_diag index value

theorem State.raise_faults (s : State) (cause : FaultCause) (value : Nat) : Faults s (s.raise cause value) cause value where
  value := s.raise_run cause value
  log := s.raise_diag cause value
  cfg := s.raise_cfg cause value
  regs := s.readReg_raise cause value
  pc := s.raise_pc cause value
  mem _ := by rw [State.raise_mem]
  cycles := s.raise_cycles cause value

theorem State.warn_warns (s : State) (kind : WarningKind) (value : Nat) : Warns s (s.warn kind value) kind value where
  value := s.warn_run kind value
  log := s.warn_diag kind value
  cfg := s.warn_cfg kind value
  regs := s.readReg_warn kind value
  pc := s.warn_pc kind value
  mem _ := by rw [State.warn_mem]
  cycles := s.warn_cycles kind value

theorem State.halt_onlyRun (s : State) : OnlyRunAndLog s s.halt .halted [] where
  value := s.halt_run
  log := by rw [State.halt_diag, List.append_nil]
  cfg := s.halt_cfg
  regs := s.readReg_halt
  pc := s.halt_pc
  mem _ := by rw [State.halt_mem]
  cycles := s.halt_cycles

/-! ### The memory primitives (20_memory.md R41, R42) -/

/-- Settles O18: the two sides of the bound. -/
theorem memReadPrimitive : Obligations.MemReadPrimitive := fun s _ => ⟨s.memRead_inRange, s.memRead_outOfRange⟩

/-- Settles O19: in range the primitive is one cell changed, out of range it fails with the index it was given. -/
theorem memWriteChangesOneCell : Obligations.MemWriteChangesOneCell := fun s index value hwf =>
  ⟨fun hin => ⟨s.setCell index value, s.memWrite_inRange value hin, State.setCell_onlyCell hwf index value⟩,
    s.memWrite_outOfRange value⟩

/-! ### div (41_alu.md R104) -/

/-- Settles O15: opcode 3, the two cases of the divisor, and the frame of an ALU computation. -/
theorem divResult : Obligations.DivResult :=
  ⟨decode_formatRNumber 3, fun rd rs1 rs2 s =>
    ⟨s.binary aluDiv rd rs1 rs2, _, rfl,
      fun hzero => (aluDiv_toNat _ _).trans (if_pos hzero),
      fun hdivisor => (aluDiv_toNat _ _).trans (if_neg hdivisor),
      s.binary_onlyRegister aluDiv rd rs1 rs2⟩⟩

/-! ### load and store (42_loadstore.md R121, R122) -/

theorem exec_load_inRange (rd rs1 rs2 : RegIdx) {s : State} (h : (s.readReg rs1).toNat < s.cfg.memorySize) :
    exec (.load rd rs1 rs2) s = .next (s.writeReg rd (s.mem.read (s.readReg rs1).toNat)) := by
  simp [exec, execLoad, s.memRead_inRange h]

theorem exec_load_outOfRange (rd rs1 rs2 : RegIdx) {s : State} (h : s.cfg.memorySize ≤ (s.readReg rs1).toNat) :
    exec (.load rd rs1 rs2) s = .next (s.raise .loadOutOfRange (s.readReg rs1).toNat) := by
  simp [exec, execLoad, s.memRead_outOfRange h]

theorem exec_store_inRange (rd rs1 rs2 : RegIdx) {s : State} (h : (s.readReg rs1).toNat < s.cfg.memorySize) :
    exec (.store rd rs1 rs2) s = .next (s.setCell (s.readReg rs1) (s.readReg rs2)) := by
  simp [exec, execStore, s.memWrite_inRange _ h]

theorem exec_store_outOfRange (rd rs1 rs2 : RegIdx) {s : State} (h : s.cfg.memorySize ≤ (s.readReg rs1).toNat) :
    exec (.store rd rs1 rs2) s = .next (s.raise .storeOutOfRange (s.readReg rs1).toNat) := by
  simp [exec, execStore, s.memWrite_outOfRange _ h]

/-- Settles O20: opcode 15, and a register write or a fault by the bound of the index. -/
theorem loadResult : Obligations.LoadResult :=
  ⟨decode_formatRNumber 15, fun rd rs1 rs2 s =>
    ⟨fun hin => ⟨_, exec_load_inRange rd rs1 rs2 hin, s.writeReg_onlyRegister rd _⟩,
      fun hout => ⟨_, exec_load_outOfRange rd rs1 rs2 hout, s.raise_faults _ _⟩⟩⟩

/-- Settles O21: opcode 16, and a cell changed or a fault by the bound of the index. -/
theorem storeResult : Obligations.StoreResult :=
  ⟨decode_formatRNumber 16, fun rd rs1 rs2 s hwf =>
    ⟨fun hin => ⟨_, exec_store_inRange rd rs1 rs2 hin, State.setCell_onlyCell hwf _ _⟩,
      fun hout => ⟨_, exec_store_outOfRange rd rs1 rs2 hout, s.raise_faults _ _⟩⟩⟩

/-! ### syscall (43_syscall.md R130) -/

theorem exec_syscall_halt (rd rs1 rs2 : RegIdx) {s : State} (h : s.readReg 0 = 0#16) :
    exec (.syscall rd rs1 rs2) s = .next s.halt := by
  simp [exec, execSyscall, Config.haltService, h]

theorem exec_syscall_warn (rd rs1 rs2 : RegIdx) {s : State} (h : s.readReg 0 ≠ 0#16) :
    exec (.syscall rd rs1 rs2) s = .next (s.warn .unimplementedService (s.readReg 0).toNat) := by
  simp [exec, execSyscall, Config.haltService, h]

/-- Settles O23: opcode 63, and a halt or a warning by the whole of R0. -/
theorem syscallResult : Obligations.SyscallResult :=
  ⟨decode_formatRNumber 63, fun rd rs1 rs2 s =>
    ⟨fun hzero => ⟨_, exec_syscall_halt rd rs1 rs2 hzero, s.halt_onlyRun⟩,
      fun hservice => ⟨_, exec_syscall_warn rd rs1 rs2 hservice, s.warn_warns _ _⟩⟩⟩

/-! ### jump and jump_cond (44_jump.md R140, R141) -/

theorem exec_jump (reg : RegIdx) (imm : Word) (s : State) : exec (.jump reg imm) s = .next (s.jumpTo imm) := rfl

theorem exec_jumpCond_taken {reg : RegIdx} (imm : Word) {s : State} (h : s.readReg reg ≠ 0#16) :
    exec (.jumpCond reg imm) s = .next (s.jumpTo imm) :=
  if_pos ((conditionHolds_iff _).2 h)

theorem exec_jumpCond_notTaken {reg : RegIdx} (imm : Word) {s : State} (h : s.readReg reg = 0#16) :
    exec (.jumpCond reg imm) s = .next s :=
  if_neg fun htaken => (conditionHolds_iff _).1 htaken h

theorem State.jumpTo_onlyPc {s : State} {target : Word} (h : target.toNat < s.cfg.memorySize) :
    OnlyPc s (s.jumpTo target) target := by
  rw [s.jumpTo_inRange h]
  exact s.setPc_onlyPc target

theorem State.jumpTo_faults {s : State} {target : Word} (h : s.cfg.memorySize ≤ target.toNat) :
    Faults s (s.jumpTo target) .jumpTargetOutOfRange target.toNat := by
  rw [s.jumpTo_outOfRange h]
  exact s.raise_faults _ _

/-- Settles O24: FormatI opcode 0, and the two sides of the bound of a transfer's target. -/
theorem jumpResult : Obligations.JumpResult :=
  ⟨fun reg _ himm => decode_formatINumber 0 reg himm, fun reg imm s =>
    ⟨fun hin => ⟨_, exec_jump reg imm s, State.jumpTo_onlyPc hin⟩,
      fun hout => ⟨_, exec_jump reg imm s, State.jumpTo_faults hout⟩⟩⟩

/-- Settles O25: FormatI opcode 1, a transfer as that of `jump` when taken, and nothing when not. -/
theorem jumpCondResult : Obligations.JumpCondResult :=
  ⟨fun reg _ himm => decode_formatINumber 1 reg himm, fun _ imm s =>
    ⟨fun htaken hin => ⟨_, exec_jumpCond_taken imm htaken, State.jumpTo_onlyPc hin⟩,
      fun htaken hout => ⟨_, exec_jumpCond_taken imm htaken, State.jumpTo_faults hout⟩,
      fun hzero => ⟨s, exec_jumpCond_notTaken imm hzero, SameState.refl s⟩⟩⟩

/-! ### Unassigned opcodes (46_unrecognized.md R160, R161) -/

/-- A constructor and a number are an unassigned row of the FormatR map: the number's opcode decodes to the constructor, whose
meaning is the warning with that number. -/
def IsUnassignedRow (p : (RegIdx → RegIdx → RegIdx → Instr) × Nat) : Prop :=
  p.2 < 64 ∧ ∀ rd rs1 rs2 : RegIdx,
    FormatR.toInstr ⟨BitVec.ofNat 6 p.2, rd, rs1, rs2⟩ = p.1 rd rs1 rs2 ∧
    ∀ s : State, exec (p.1 rd rs1 rs2) s = .next (s.warn .unrecognizedOpcodeR p.2)

theorem isUnassignedRow_of_mem {p : (RegIdx → RegIdx → RegIdx → Instr) × Nat} (hp : p ∈ unassignedR) :
    IsUnassignedRow p := by
  unfold unassignedR unassignedLow unassignedMiddle unassignedHigh at hp
  fin_cases hp <;> exact ⟨by decide, fun _ _ _ => ⟨rfl, fun _ => rfl⟩⟩

/-- Settles O27: every entry of the list is a row of the map whose meaning is its warning. -/
theorem unassignedRIsWarning : Obligations.UnassignedRIsWarning := by
  refine ⟨by decide, fun p hp rd rs1 rs2 => ?_⟩
  obtain ⟨hlt, hrow⟩ := isUnassignedRow_of_mem hp
  obtain ⟨hinstr, hexec⟩ := hrow rd rs1 rs2
  have hopcode : (BitVec.ofNat 6 p.2).toNat = p.2 := Nat.mod_eq_of_lt hlt
  have hdecode := decode_formatRNumber (BitVec.ofNat 6 p.2) rd rs1 rs2
  rw [hopcode, hinstr] at hdecode
  exact ⟨hdecode, fun s => ⟨_, hexec s, s.warn_warns _ _⟩⟩

/-- Settles O28: FormatI opcode 2, whose meaning is its warning. -/
theorem unassignedIIsWarning : Obligations.UnassignedIIsWarning :=
  ⟨fun reg _ himm => decode_formatINumber 2 reg himm, fun _ _ s => ⟨_, rfl, s.warn_warns .unrecognizedOpcodeI 2⟩⟩

/-- Settles O29: the meanings of `load`, `store`, `syscall`, `jump` and the unassigned opcodes take no ignored field. -/
theorem unusedFieldsIgnored : Obligations.UnusedFieldsIgnored := by
  refine fun a b c a' b' c' imm s => ⟨rfl, rfl, rfl, rfl, fun p hp => ?unassignedRows, fun imm' => rfl⟩
  case unassignedRows =>
    obtain ⟨-, hrow⟩ := isUnassignedRow_of_mem hp
    rw [(hrow a b c).2 s, (hrow a' b' c').2 s]

end Sys2Proof.Machine
end

section
/-! What an instruction can change, over all instructions (10_state.md, 30_encoding.md R68): one lemma for each part of the
state, by cases on the effects. -/

namespace Sys2Proof.Machine

/-! ### The parts of the state, one by one -/

theorem Effect.cfg_eq {s t : State} {i : Instr} (h : Effect s i t) : t.cfg = s.cfg := by
  cases h <;> rfl

/-- Each of the six ALU instructions names rd at its write port (30_encoding.md R68). -/
theorem destination_of_alu {i : Instr} {f : Word → Word → Word} {rd rs1 rs2 : RegIdx}
    (hi : (i, f) ∈ [(Instr.add rd rs1 rs2, aluAdd), (.sub rd rs1 rs2, aluSub), (.mul rd rs1 rs2, aluMul),
      (.div rd rs1 rs2, aluDiv), (.cmpEqual rd rs1 rs2, aluCmpEqual), (.cmpNeq rd rs1 rs2, aluCmpNeq)]) :
    destination i = some rd := by
  fin_cases hi <;> rfl

/-- A register that an instruction does not name as its destination reads as before. -/
theorem Effect.readReg_eq {s t : State} {i : Instr} {r : RegIdx} (h : Effect s i t) (hr : destination i ≠ some r) :
    t.readReg r = s.readReg r := by
  have named {rd : RegIdx} (hd : destination i = some rd) : r ≠ rd := fun e => hr (e ▸ hd)
  cases h with
  | alu rd rs1 rs2 f hi => exact s.readReg_writeReg_other _ (named (destination_of_alu hi))
  | load rd => exact s.readReg_writeReg_other _ (named rfl)
  | mov reg => exact s.readReg_writeReg_other _ (named rfl)
  | _ => rfl

/-- The memory is as before, unless the instruction is a `store` whose index is in range. -/
theorem Effect.mem_cases {s t : State} {i : Instr} (h : Effect s i t) :
    t.mem = s.mem ∨ ∃ rd rs1 rs2, i = .store rd rs1 rs2 ∧ (s.readReg rs1).toNat < s.cfg.memorySize ∧
      t = s.setCell (s.readReg rs1) (s.readReg rs2) := by
  cases h with
  | store rd rs1 rs2 hin => exact .inr ⟨rd, rs1, rs2, rfl, hin, rfl⟩
  | _ => exact .inl rfl

/-- The pc is as before, unless the instruction is a transfer that is taken and whose target is in range. -/
theorem Effect.pc_cases {s t : State} {i : Instr} (h : Effect s i t) :
    t.pc = s.pc ∨ ∃ reg imm, (i = .jump reg imm ∨ (i = .jumpCond reg imm ∧ s.readReg reg ≠ 0#16)) ∧
      t.pc = imm ∧ imm.toNat < s.cfg.memorySize := by
  cases h with
  | jump reg imm hi hin => exact .inr ⟨reg, imm, hi, rfl, hin⟩
  | _ => exact .inl rfl

/-- Settles O30: a register not named at the write port reads as before. -/
theorem onlyDestinationRegisterChanges : Obligations.OnlyDestinationRegisterChanges := by
  intro i s t r hexec hchange
  by_contra hr
  exact hchange ((effect_of_exec hexec).readReg_eq hr)

/-- Settles O31: only `store` touches the memory, and its one cell is the one that can read otherwise. -/
theorem onlyStoreChangesMemory : Obligations.OnlyStoreChangesMemory := by
  intro i s t a hwf hexec hchange
  obtain hmem | ⟨rd, rs1, rs2, hi, hin, rfl⟩ := (effect_of_exec hexec).mem_cases
  · exact absurd (by rw [hmem]) hchange
  · have honly := State.setCell_onlyCell hwf (s.readReg rs1) (s.readReg rs2)
    have ha : a = (s.readReg rs1).toNat := by
      by_contra hother
      exact hchange (honly.others a hother)
    subst ha
    exact ⟨rd, rs1, rs2, hi, rfl, hin, honly.value⟩

/-- Settles O32: only a taken transfer sets the pc. -/
theorem onlyJumpsChangePc : Obligations.OnlyJumpsChangePc := by
  intro i s t hexec hchange
  obtain hpc | hjump := (effect_of_exec hexec).pc_cases
  · exact absurd hpc hchange
  · exact hjump

/-! ### The counter and the log are not read (10_state.md section 3) -/

/-- The state with another counter and another log. -/
def State.withCounterAndLog (s : State) (n : Nat) (d : List DiagEvent) : State := { s with cycles := n, diag := d }

/-- What a meaning answers in `s`, and what it answers there with the counter `n` and the log `d`: the same state but for these
two, which it leaves as given but for at most one event more. -/
def SameApartFromCounterAndLog (s : State) (n : Nat) (d : List DiagEvent) (o o' : Host.Outcome State Fault Refusal) : Prop :=
  ∃ t new, o = .next t ∧ t.cfg = s.cfg ∧ t.cycles = s.cycles ∧ t.diag = s.diag ++ new ∧ new.length ≤ 1 ∧
    o' = .next (t.withCounterAndLog n (d ++ new))

/-- A meaning that does not read the counter or the log. -/
def IgnoresCounterAndLog (meaning : State → Host.Outcome State Fault Refusal) : Prop :=
  ∀ (s : State) (n : Nat) (d : List DiagEvent),
    SameApartFromCounterAndLog s n d (meaning s) (meaning (s.withCounterAndLog n d))

theorem same_of_noEvent {s t : State} {n : Nat} {d : List DiagEvent} (hcfg : t.cfg = s.cfg)
    (hcycles : t.cycles = s.cycles) (hdiag : t.diag = s.diag) :
    SameApartFromCounterAndLog s n d (.next t) (.next (t.withCounterAndLog n d)) :=
  ⟨t, [], rfl, hcfg, hcycles, by rw [hdiag, List.append_nil], Nat.zero_le 1, by rw [List.append_nil]⟩

theorem same_of_event {s t : State} {n : Nat} {d : List DiagEvent} (e : DiagEvent) (hcfg : t.cfg = s.cfg)
    (hcycles : t.cycles = s.cycles) (hdiag : t.diag = s.diag ++ [e]) :
    SameApartFromCounterAndLog s n d (.next t) (.next (t.withCounterAndLog n (d ++ [e]))) :=
  ⟨t, [e], rfl, hcfg, hcycles, hdiag, Nat.le_refl 1, rfl⟩

theorem ignores_binary (f : Word → Word → Word) (rd rs1 rs2 : RegIdx) :
    IgnoresCounterAndLog (fun s => .next (s.binary f rd rs1 rs2)) :=
  fun s _ _ => same_of_noEvent (t := s.binary f rd rs1 rs2) rfl rfl rfl

theorem ignores_mov (reg : RegIdx) (imm : Word) : IgnoresCounterAndLog (exec (.mov reg imm)) :=
  fun s _ _ => same_of_noEvent (t := s.writeReg reg imm) rfl rfl rfl

theorem ignores_warn (kind : WarningKind) (value : Nat) : IgnoresCounterAndLog (fun s => .next (s.warn kind value)) :=
  fun s _ _ => same_of_event (t := s.warn kind value) _ rfl rfl rfl

theorem ignores_load (rd rs1 rs2 : RegIdx) : IgnoresCounterAndLog (exec (.load rd rs1 rs2)) := by
  intro s n d
  by_cases hin : (s.readReg rs1).toNat < s.cfg.memorySize
  · rw [exec_load_inRange rd rs1 rs2 hin, exec_load_inRange rd rs1 rs2 (s := s.withCounterAndLog n d) hin]
    exact same_of_noEvent rfl rfl rfl
  · have hout : s.cfg.memorySize ≤ (s.readReg rs1).toNat := Nat.le_of_not_lt hin
    rw [exec_load_outOfRange rd rs1 rs2 hout, exec_load_outOfRange rd rs1 rs2 (s := s.withCounterAndLog n d) hout]
    exact same_of_event _ rfl rfl rfl

theorem ignores_store (rd rs1 rs2 : RegIdx) : IgnoresCounterAndLog (exec (.store rd rs1 rs2)) := by
  intro s n d
  by_cases hin : (s.readReg rs1).toNat < s.cfg.memorySize
  · rw [exec_store_inRange rd rs1 rs2 hin, exec_store_inRange rd rs1 rs2 (s := s.withCounterAndLog n d) hin]
    exact same_of_noEvent rfl rfl rfl
  · have hout : s.cfg.memorySize ≤ (s.readReg rs1).toNat := Nat.le_of_not_lt hin
    rw [exec_store_outOfRange rd rs1 rs2 hout, exec_store_outOfRange rd rs1 rs2 (s := s.withCounterAndLog n d) hout]
    exact same_of_event _ rfl rfl rfl

theorem ignores_syscall (rd rs1 rs2 : RegIdx) : IgnoresCounterAndLog (exec (.syscall rd rs1 rs2)) := by
  intro s n d
  by_cases hzero : s.readReg 0 = 0#16
  · rw [exec_syscall_halt rd rs1 rs2 hzero, exec_syscall_halt rd rs1 rs2 (s := s.withCounterAndLog n d) hzero]
    exact same_of_noEvent rfl rfl rfl
  · rw [exec_syscall_warn rd rs1 rs2 hzero, exec_syscall_warn rd rs1 rs2 (s := s.withCounterAndLog n d) hzero]
    exact same_of_event _ rfl rfl rfl

theorem ignores_jump (reg : RegIdx) (imm : Word) : IgnoresCounterAndLog (exec (.jump reg imm)) := by
  intro s n d
  rw [exec_jump, exec_jump]
  by_cases hin : imm.toNat < s.cfg.memorySize
  · rw [s.jumpTo_inRange hin, (s.withCounterAndLog n d).jumpTo_inRange hin]
    exact same_of_noEvent rfl rfl rfl
  · have hout : s.cfg.memorySize ≤ imm.toNat := Nat.le_of_not_lt hin
    rw [s.jumpTo_outOfRange hout, (s.withCounterAndLog n d).jumpTo_outOfRange hout]
    exact same_of_event _ rfl rfl rfl

/-- Taken, `jump_cond` is a `jump`; not taken, it changes nothing. -/
theorem ignores_jumpCond (reg : RegIdx) (imm : Word) : IgnoresCounterAndLog (exec (.jumpCond reg imm)) := by
  intro s n d
  by_cases hzero : s.readReg reg = 0#16
  · rw [exec_jumpCond_notTaken imm hzero, exec_jumpCond_notTaken imm (s := s.withCounterAndLog n d) hzero]
    exact same_of_noEvent rfl rfl rfl
  · rw [exec_jumpCond_taken imm hzero, exec_jumpCond_taken imm (s := s.withCounterAndLog n d) hzero]
    exact ignores_jump reg imm s n d

/-- Settles O33, meaning by meaning: none chooses by the counter or the log, and each logs one event at most. -/
theorem counterAndLogNotRead : Obligations.CounterAndLogNotRead := by
  intro i
  cases i with
  | add rd rs1 rs2 => exact ignores_binary aluAdd rd rs1 rs2
  | sub rd rs1 rs2 => exact ignores_binary aluSub rd rs1 rs2
  | mul rd rs1 rs2 => exact ignores_binary aluMul rd rs1 rs2
  | div rd rs1 rs2 => exact ignores_binary aluDiv rd rs1 rs2
  | cmpEqual rd rs1 rs2 => exact ignores_binary aluCmpEqual rd rs1 rs2
  | cmpNeq rd rs1 rs2 => exact ignores_binary aluCmpNeq rd rs1 rs2
  | load rd rs1 rs2 => exact ignores_load rd rs1 rs2
  | store rd rs1 rs2 => exact ignores_store rd rs1 rs2
  | syscall rd rs1 rs2 => exact ignores_syscall rd rs1 rs2
  | jump reg imm => exact ignores_jump reg imm
  | jumpCond reg imm => exact ignores_jumpCond reg imm
  | mov reg imm => exact ignores_mov reg imm
  | _ => exact ignores_warn _ _

end Sys2Proof.Machine
end

section
/-! One iteration (40_engine_cycle.md R81 to R89): what `step` answers in each of its cases, and what the end of the cycle keeps
of what execute did. -/

namespace Sys2Proof.Machine

/-! ### The end of a cycle (R86, R87) -/

@[simp] theorem State.endCycle_cfg (u : State) : u.endCycle.cfg = u.cfg := by
  obtain ⟨-, h⟩ | ⟨-, -, h⟩ := u.endCycle_cases <;> rw [h] <;> rfl

@[simp] theorem State.endCycle_regs (u : State) : u.endCycle.regs = u.regs := by
  obtain ⟨-, h⟩ | ⟨-, -, h⟩ := u.endCycle_cases <;> rw [h] <;> rfl

@[simp] theorem State.endCycle_pc (u : State) : u.endCycle.pc = u.pc := by
  obtain ⟨-, h⟩ | ⟨-, -, h⟩ := u.endCycle_cases <;> rw [h] <;> rfl

@[simp] theorem State.endCycle_mem (u : State) : u.endCycle.mem = u.mem := by
  obtain ⟨-, h⟩ | ⟨-, -, h⟩ := u.endCycle_cases <;> rw [h] <;> rfl

@[simp] theorem State.readReg_endCycle (u : State) (r : RegIdx) : u.endCycle.readReg r = u.readReg r :=
  State.readReg_congr u.endCycle_regs r

/-- A run that execute ended is not checked against the ceiling. -/
theorem State.endCycle_of_ended {u : State} (h : u.run ≠ .running) : u.endCycle = u.countCycle := by
  obtain ⟨-, hcount⟩ | ⟨hrun, -, -⟩ := u.endCycle_cases
  · exact hcount
  · exact absurd hrun h

theorem State.endCycle_of_within {u : State} (h : u.cycles < u.cfg.cycleLimit) : u.endCycle = u.countCycle := by
  obtain ⟨-, hcount⟩ | ⟨-, hover, -⟩ := u.endCycle_cases
  · exact hcount
  · omega

theorem State.endCycle_of_exceeded {u : State} (hrun : u.run = .running) (h : u.cfg.cycleLimit ≤ u.cycles) :
    u.endCycle = u.countCycle.raise .resourceExhaustion u.cfg.cycleLimit := by
  obtain ⟨hnot, -⟩ | ⟨-, -, hceiling⟩ := u.endCycle_cases
  · exact absurd ⟨hrun, Nat.lt_succ_of_le h⟩ hnot
  · exact hceiling

/-! ### What a step answers (R88, R89) -/

/-- A terminal state answers itself (notes/assumptions/1.md). -/
theorem step_of_terminal {s : State} (h : s.run.terminal = true) : step s = .next s := by
  unfold step
  split
  · rfl
  · rfl
  · next hrun => rw [hrun] at h; cases h

theorem RunState.terminal_iff (r : RunState) : r.terminal = true ↔ r ≠ .running := by
  cases r <;> simp [RunState.terminal]

theorem step_of_pcOutOfRange {s : State} (hrun : s.run = .running) (hpc : s.cfg.memorySize ≤ s.pc.toNat) :
    step s = .next s.failPcCheck := by
  have hcheck : ¬s.pcInRange = true := fun h => Nat.not_lt.2 hpc (s.pcInRange_iff.1 h)
  simp only [step, hrun, hcheck, if_false, Bool.false_eq_true]

/-- Settles O35, by the three cases of a step: no instruction refuses. -/
theorem stepAlwaysAnswers : Obligations.StepAlwaysAnswers := by
  intro s
  by_cases hrun : s.run = .running
  · by_cases hpc : s.pc.toNat < s.cfg.memorySize
    · obtain ⟨u, hexec, -⟩ := exec_effect s.currentInstr s.advancePc
      exact ⟨u.endCycle, step_of_exec hrun hpc hexec⟩
    · exact ⟨s.failPcCheck, step_of_pcOutOfRange hrun (Nat.le_of_not_lt hpc)⟩
  · exact ⟨s, step_of_terminal (s.run.terminal_iff.2 hrun)⟩

/-- Settles O36: the failed PC check is a fault raised with the pc. -/
theorem pcOutOfRangeFaults : Obligations.PcOutOfRangeFaults := fun s hrun hpc =>
  ⟨s.failPcCheck, step_of_pcOutOfRange hrun hpc, s.raise_faults _ _⟩

/-- Settles O34: the instruction is the decoded one, and the end of the cycle is the count and the check. -/
theorem stepRunsDecodedInstruction : Obligations.StepRunsDecodedInstruction := by
  rintro s i hrun hpc rfl
  obtain ⟨u, hexec, -⟩ := exec_effect s.currentInstr s.advancePc
  exact ⟨decode_wellFormed _, u, hexec, step_of_exec hrun hpc hexec⟩

/-- Settles O39, by the cases of the ceiling check; execute leaves the counter and the configuration that it compares. -/
theorem ceilingOnlyWhileRunning : Obligations.CeilingOnlyWhileRunning := by
  intro s u hrun hpc hexec
  have heffect := effect_of_exec hexec
  have hcfg : u.cfg = s.cfg := heffect.cfg_eq
  have hcycles : u.cycles = s.cycles := heffect.cycles_eq
  refine ⟨u.endCycle, step_of_exec hrun hpc hexec, u.endCycle_pc, u.readReg_endCycle, fun a => by rw [u.endCycle_mem],
    fun hended => ?ended, fun hgoes hwithin => ?within, fun hgoes hover => ?exceeded⟩
  case ended => rw [State.endCycle_of_ended hended]; exact ⟨rfl, rfl⟩
  case within => rw [State.endCycle_of_within (by rwa [hcycles, hcfg])]; exact ⟨hgoes, rfl⟩
  case exceeded => rw [State.endCycle_of_exceeded hgoes (by rwa [hcycles, hcfg]), hcfg]; exact ⟨rfl, rfl⟩

/-! ### Terminal states (R89) -/

/-- Settles O40, by induction on the iterations: each answers the state it was given. -/
theorem terminalStatesAreFrozen : Obligations.TerminalStatesAreFrozen := by
  intro s n hterminal
  induction n with
  | zero => exact core_run_zero s
  | succ n ih => rw [core_run_succ n (step_of_terminal hterminal), ih]

/-! ### A store to the next index (20_memory.md R51, R52) -/

/-- The state after the cycle of a `store` in range and below the ceiling: the pc, one cell and the counter are new. -/
def State.afterStore (s : State) (rs1 rs2 : RegIdx) : State :=
  (s.advancePc.setCell (s.readReg rs1) (s.readReg rs2)).countCycle

theorem step_store {s : State} {rd rs1 rs2 : RegIdx} (hrun : s.run = .running) (hpc : s.pc.toNat < s.cfg.memorySize)
    (hcycles : s.cycles < s.cfg.cycleLimit) (hinstr : s.currentInstr = .store rd rs1 rs2)
    (hin : (s.readReg rs1).toNat < s.cfg.memorySize) : step s = .next (s.afterStore rs1 rs2) := by
  have hexec : exec s.currentInstr s.advancePc = .next (s.advancePc.setCell (s.readReg rs1) (s.readReg rs2)) := by
    rw [hinstr]
    exact exec_store_inRange rd rs1 rs2 (s := s.advancePc) hin
  have hwithin : (s.advancePc.setCell (s.readReg rs1) (s.readReg rs2)).endCycle = s.afterStore rs1 rs2 :=
    State.endCycle_of_within hcycles
  rw [step_of_exec hrun hpc hexec, hwithin]

/-- Settles O22: the cell the next cycle fetches from is the one stored to. -/
theorem storeSeenByNextFetch : Obligations.StoreSeenByNextFetch := by
  intro s rd rs1 rs2 hvalid hwf hrun hcycles hnext hinstr hindex
  have hpc : s.pc.toNat < s.cfg.memorySize := Nat.lt_of_succ_lt hnext
  have hin : (s.readReg rs1).toNat < s.cfg.memorySize := hindex ▸ hnext
  have hpcNext : (s.afterStore rs1 rs2).pc.toNat = s.pc.toNat + 1 := State.advancePc_pc_toNat hvalid hpc
  have hread : (s.afterStore rs1 rs2).mem.read (s.afterStore rs1 rs2).pc.toNat = s.readReg rs2 := by
    rw [hpcNext, ← hindex]
    exact Memory.read_write_same hwf _ _
  have hnextStep : step (s.afterStore rs1 rs2) =
      finishCycle (exec (s.afterStore rs1 rs2).currentInstr (s.afterStore rs1 rs2).advancePc) :=
    step_of_running hrun (hpcNext ▸ hnext)
  refine ⟨s.afterStore rs1 rs2, step_store hrun hpc hcycles hinstr hin, hrun, hpcNext, hread, ?_⟩
  rw [hnextStep, State.currentInstr, State.fetch, hread]

end Sys2Proof.Machine
end

section
/-! How an instruction and an iteration can end (60_exceptions.md): the run state and the log, which change together. -/

namespace Sys2Proof.Machine

/-- The AddressFaults that execute can raise in `s`, each with its instruction and its index (60_exceptions.md R171). -/
inductive AddressFault (s : State) : Instr → FaultRecord → Prop where
  | load (rd rs1 rs2 : RegIdx) (h : s.cfg.memorySize ≤ (s.readReg rs1).toNat) :
      AddressFault s (.load rd rs1 rs2) ⟨.loadOutOfRange, (s.readReg rs1).toNat⟩
  | store (rd rs1 rs2 : RegIdx) (h : s.cfg.memorySize ≤ (s.readReg rs1).toNat) :
      AddressFault s (.store rd rs1 rs2) ⟨.storeOutOfRange, (s.readReg rs1).toNat⟩
  | jump {i : Instr} (reg : RegIdx) (imm : Word)
      (hi : i = .jump reg imm ∨ (i = .jumpCond reg imm ∧ s.readReg reg ≠ 0#16)) (h : s.cfg.memorySize ≤ imm.toNat) :
      AddressFault s i ⟨.jumpTargetOutOfRange, imm.toNat⟩

/-- The ways execute can leave the run state and the log: as they were, with a warning, halted, or faulted. -/
inductive Ending (s : State) (i : Instr) (t : State) : Prop where
  | quiet (hrun : t.run = s.run) (hlog : t.diag = s.diag)
  | warned (kind : WarningKind) (value : Nat) (hrun : t.run = s.run) (hlog : t.diag = s.diag ++ [.warning kind value])
  | halted (rd rs1 rs2 : RegIdx) (hi : i = .syscall rd rs1 rs2) (hzero : s.readReg 0 = 0#16) (ht : t = s.halt)
  | faulted (r : FaultRecord) (hfault : AddressFault s i r) (ht : t = s.raise r.cause r.value)

theorem Effect.ending {s t : State} {i : Instr} (h : Effect s i t) : Ending s i t := by
  cases h with
  | loadFault rd rs1 rs2 hout => exact .faulted _ (.load rd rs1 rs2 hout) rfl
  | storeFault rd rs1 rs2 hout => exact .faulted _ (.store rd rs1 rs2 hout) rfl
  | jumpFault reg imm hi hout => exact .faulted _ (.jump reg imm hi hout) rfl
  | halt rd rs1 rs2 hzero => exact .halted rd rs1 rs2 rfl hzero rfl
  | service => exact .warned _ _ rfl rfl
  | unassignedR => exact .warned _ _ rfl rfl
  | unassignedI => exact .warned _ _ rfl rfl
  | _ => exact .quiet rfl rfl

/-- An AddressFault's value is a Word outside the memory (60_exceptions.md R171). -/
theorem AddressFault.legal {s : State} {i : Instr} {r : FaultRecord} (h : AddressFault s i r) :
    r.cause ≠ .resourceExhaustion ∧ r.cause ≠ .pcOutOfRange ∧ s.cfg.memorySize ≤ r.value ∧ r.value < wordModulus := by
  cases h with
  | load rd rs1 rs2 hout => exact ⟨by simp, by simp, hout, (s.readReg rs1).isLt⟩
  | store rd rs1 rs2 hout => exact ⟨by simp, by simp, hout, (s.readReg rs1).isLt⟩
  | jump reg imm hi hout => exact ⟨by simp, by simp, hout, imm.isLt⟩

/-! The cause tells the instruction (60_exceptions.md R171). -/

theorem AddressFault.of_load {s : State} {i : Instr} {r : FaultRecord} (h : AddressFault s i r)
    (hcause : r.cause = .loadOutOfRange) :
    ∃ rd rs1 rs2, i = .load rd rs1 rs2 ∧ r.value = (s.readReg rs1).toNat := by
  cases h with
  | load rd rs1 rs2 => exact ⟨rd, rs1, rs2, rfl, rfl⟩
  | store => cases hcause
  | jump => cases hcause

theorem AddressFault.of_store {s : State} {i : Instr} {r : FaultRecord} (h : AddressFault s i r)
    (hcause : r.cause = .storeOutOfRange) :
    ∃ rd rs1 rs2, i = .store rd rs1 rs2 ∧ r.value = (s.readReg rs1).toNat := by
  cases h with
  | load => cases hcause
  | store rd rs1 rs2 => exact ⟨rd, rs1, rs2, rfl, rfl⟩
  | jump => cases hcause

theorem AddressFault.of_jump {s : State} {i : Instr} {r : FaultRecord} (h : AddressFault s i r)
    (hcause : r.cause = .jumpTargetOutOfRange) :
    ∃ reg imm, r.value = imm.toNat ∧ (i = .jump reg imm ∨ (i = .jumpCond reg imm ∧ s.readReg reg ≠ 0#16)) := by
  cases h with
  | load => cases hcause
  | store => cases hcause
  | jump reg imm hi => exact ⟨reg, imm, rfl, hi⟩

/-! ### Halted (10_state.md R30) -/

/-- Execute halts a running state by `syscall` with R0 = 0 alone. -/
theorem Ending.of_halted {s t : State} {i : Instr} (h : Ending s i t) (hrun : s.run = .running) (ht : t.run = .halted) :
    (∃ rd rs1 rs2, i = .syscall rd rs1 rs2) ∧ s.readReg 0 = 0#16 ∧ t = s.halt := by
  cases h with
  | quiet hkeep => simp [hkeep, hrun] at ht
  | warned kind value hkeep => simp [hkeep, hrun] at ht
  | halted rd rs1 rs2 hi hzero heq => exact ⟨⟨rd, rs1, rs2, hi⟩, hzero, heq⟩
  | faulted r hfault heq => simp [heq] at ht

/-- Settles O41: neither the PC check nor the ceiling check halts, so execute did. -/
theorem haltedOnlyBySyscallZero : Obligations.HaltedOnlyBySyscallZero := by
  intro s t hrun hstep ht
  obtain ⟨hterminal, -⟩ | ⟨-, -, rfl⟩ | ⟨-, -, u, -, heffect, rfl⟩ := step_cases hstep
  · exact absurd hrun hterminal
  · cases ht
  · obtain ⟨-, hcount⟩ | ⟨-, -, hceiling⟩ := u.endCycle_cases
    · rw [hcount] at ht ⊢
      obtain ⟨hinstr, hzero, rfl⟩ := heffect.ending.of_halted hrun ht
      exact ⟨hinstr, hzero, rfl⟩
    · rw [hceiling] at ht
      cases ht

/-! ### AddressFaults (60_exceptions.md R172) -/

/-- Execute faults a running state by an AddressFault alone. -/
theorem Ending.of_faulted {s t : State} {i : Instr} {r : FaultRecord} (h : Ending s i t) (hrun : s.run = .running)
    (ht : t.run = .faulted r) : AddressFault s i r ∧ t = s.raise r.cause r.value := by
  cases h with
  | quiet hkeep => simp [hkeep, hrun] at ht
  | warned kind value hkeep => simp [hkeep, hrun] at ht
  | halted rd rs1 rs2 hi hzero heq => simp [heq] at ht
  | faulted r' hfault heq =>
    have hr : r' = r := by simpa [heq] using ht
    subst hr
    exact ⟨hfault, heq⟩

/-- A step that leaves a running state with an AddressFault failed the PC check, or its instruction raised the fault. -/
theorem step_addressFault {s t : State} {r : FaultRecord} (hrun : s.run = .running) (hstep : step s = .next t)
    (ht : t.run = .faulted r) (hcause : r.cause ≠ .resourceExhaustion) :
    (r = ⟨.pcOutOfRange, s.pc.toNat⟩ ∧ s.cfg.memorySize ≤ s.pc.toNat ∧ t = s.failPcCheck) ∨
      (AddressFault s.advancePc s.currentInstr r ∧ t = (s.advancePc.raise r.cause r.value).countCycle) := by
  obtain ⟨hterminal, -⟩ | ⟨-, hpc, rfl⟩ | ⟨-, -, u, -, heffect, rfl⟩ := step_cases hstep
  · exact absurd hrun hterminal
  · have hr : ⟨.pcOutOfRange, s.pc.toNat⟩ = r := RunState.faulted.inj ht
    exact .inl ⟨hr.symm, hpc, rfl⟩
  · obtain ⟨-, hcount⟩ | ⟨-, -, hceiling⟩ := u.endCycle_cases
    · rw [hcount] at ht ⊢
      obtain ⟨hfault, rfl⟩ := heffect.ending.of_faulted hrun ht
      exact .inr ⟨hfault, rfl⟩
    · rw [hceiling] at ht
      have hr : ⟨.resourceExhaustion, u.cfg.cycleLimit⟩ = r := RunState.faulted.inj ht
      exact absurd (hr ▸ rfl) hcause

/-- Settles O42: a failed PC check raises its fault in the state as it was, an instruction in the state after the increment,
and the count is all that follows it. -/
theorem addressFaultsArePrecise : Obligations.AddressFaultsArePrecise := by
  intro s t r hrun hstep ht hcause
  obtain ⟨rfl, hpc, rfl⟩ | ⟨hfault, rfl⟩ := step_addressFault hrun hstep ht hcause
  · exact ⟨fun _ => rfl, rfl, rfl, hpc, fun _ => ⟨rfl, rfl, rfl⟩, fun h => absurd rfl h, fun h => (by cases h),
      fun h => (by cases h), fun h => (by cases h)⟩
  · obtain ⟨-, hnotPc, hout, -⟩ := hfault.legal
    exact ⟨fun _ => rfl, rfl, rfl, hout, fun h => absurd h hnotPc, fun _ => ⟨rfl, rfl⟩, hfault.of_load, hfault.of_store,
      hfault.of_jump⟩

/-! ### The events of an iteration (10_state.md R33) -/

/-- Execute logs nothing, one warning in a run it leaves as it was, or one fault. -/
theorem Ending.events {s t : State} {i : Instr} (h : Ending s i t) :
    t.diag = s.diag ∨ (∃ kind value, t.diag = s.diag ++ [.warning kind value]) ∨
      (t.run ≠ .running ∧ ∃ cause value, t.diag = s.diag ++ [.fault cause value]) := by
  cases h with
  | quiet _ hlog => exact .inl hlog
  | warned kind value _ hlog => exact .inr (.inl ⟨kind, value, hlog⟩)
  | halted _ _ _ _ _ heq => exact .inl (by rw [heq, State.halt_diag])
  | faulted r _ heq => exact .inr (.inr ⟨by simp [heq], r.cause, r.value, by rw [heq, State.raise_diag]⟩)

/-- Settles O43: a terminal state logs nothing, the PC check one fault, and a cycle what execute logs and then, in a run it left
Running, perhaps the ceiling fault. -/
theorem eventsOfOneIteration : Obligations.EventsOfOneIteration := by
  intro s t hstep
  obtain ⟨-, rfl⟩ | ⟨hrun, -, rfl⟩ | ⟨hrun, -, u, -, heffect, rfl⟩ := step_cases hstep
  · exact .inl rfl
  · exact .inr (.inl ⟨hrun, _, rfl⟩)
  · obtain ⟨-, hcount⟩ | ⟨hgoes, -, hceiling⟩ := u.endCycle_cases
    · have hdiag : u.endCycle.diag = u.diag := by rw [hcount, State.countCycle_diag]
      rw [hdiag]
      obtain hnone | ⟨kind, value, hwarned⟩ | ⟨-, cause, value, hfaulted⟩ := heffect.ending.events
      · exact .inl hnone
      · exact .inr (.inl ⟨hrun, _, hwarned⟩)
      · exact .inr (.inl ⟨hrun, _, hfaulted⟩)
    · have hcfg : u.cfg = s.cfg := heffect.cfg_eq
      have hdiag : u.endCycle.diag = u.diag ++ [.fault .resourceExhaustion s.cfg.cycleLimit] := by
        rw [hceiling, State.raise_diag, State.countCycle_diag, hcfg]
      rw [hdiag]
      obtain hnone | ⟨kind, value, hwarned⟩ | ⟨hended, -⟩ := heffect.ending.events
      · exact .inr (.inl ⟨hrun, _, by rw [hnone]; rfl⟩)
      · exact .inr (.inr ⟨hrun, kind, value, by rw [hwarned]; exact List.append_assoc _ _ _⟩)
      · exact absurd hgoes hended

end Sys2Proof.Machine
end

section
/-! The invariant `Inv` (10_state.md, 40_engine_cycle.md, 60_exceptions.md): every reset has it, and every step keeps it. The
cycle is followed in three parts: the increment, execute, the end of the cycle. -/

namespace Sys2Proof.Machine

/-! ### Legal records and the log -/

/-- The four AddressFaults hold an index that is a Word outside the memory (60_exceptions.md R171). -/
theorem FaultRecord.legal_of_index {c : Config} {r : FaultRecord} (hcause : r.cause ≠ .resourceExhaustion)
    (hout : c.memorySize ≤ r.value) (hword : r.value < wordModulus) : r.legal c := by
  unfold FaultRecord.legal
  split
  · next h => exact absurd h hcause
  · exact ⟨hout, hword⟩

theorem logAgrees_raise {d : List DiagEvent} (h : logAgrees .running d) (cause : FaultCause) (value : Nat) :
    logAgrees (.faulted ⟨cause, value⟩) (d ++ [.fault cause value]) := ⟨d, rfl, h⟩

theorem logAgrees_warn {d : List DiagEvent} (h : logAgrees .running d) (kind : WarningKind) (value : Nat) :
    logAgrees .running (d ++ [.warning kind value]) := by
  intro e he
  obtain hold | hnew := List.mem_append.1 he
  · exact h e hold
  · rw [List.mem_singleton.1 hnew]
    rfl

/-! ### The invariant inside a cycle -/

/-- What holds after the increment and after execute, before the count: as `Inv`, but the counter is within the ceiling, and a
fault is one of an instruction. -/
structure MidCycle (u : State) : Prop where
  config : u.cfg.Valid
  memForm : u.mem.wf = true
  memRange : u.mem.within u.cfg.memorySize = true
  pcRange : u.pc.toNat ≤ u.cfg.memorySize
  cycles : u.cycles ≤ u.cfg.cycleLimit
  record : ∀ r, u.run = .faulted r → r.legal u.cfg ∧ r.cause ≠ .resourceExhaustion
  log : logAgrees u.run u.diag

/-- The increment of a pc in range leaves it at most MEMORY_SIZE (40_engine_cycle.md R83). -/
theorem Inv.midCycle_advancePc {s : State} (h : Inv s) (hrun : s.run = .running) (hpc : s.pc.toNat < s.cfg.memorySize) :
    MidCycle s.advancePc where
  config := h.config
  memForm := h.memForm
  memRange := h.memRange
  pcRange := by rw [State.advancePc_pc_toNat h.config hpc]; exact hpc
  cycles := h.cyclesRunning hrun
  record r hr := by rw [State.advancePc_run, hrun] at hr; cases hr
  log := h.log

/-- An effect keeps the memory's form and range: the one cell it can write is in range. -/
theorem Effect.keeps_memory {s t : State} {i : Instr} (h : Effect s i t) (hwf : s.mem.wf = true)
    (hwithin : s.mem.within s.cfg.memorySize = true) : t.mem.wf = true ∧ t.mem.within s.cfg.memorySize = true := by
  obtain hmem | ⟨_, rs1, rs2, -, hin, rfl⟩ := h.mem_cases
  · rw [hmem]
    exact ⟨hwf, hwithin⟩
  · exact State.setCell_memForm _ hwf hwithin hin

theorem Effect.keeps_pcRange {s t : State} {i : Instr} (h : Effect s i t) (hpc : s.pc.toNat ≤ s.cfg.memorySize) :
    t.pc.toNat ≤ s.cfg.memorySize := by
  obtain hkept | ⟨_, imm, -, hjump, hin⟩ := h.pc_cases
  · rwa [hkept]
  · rw [hjump]
    exact Nat.le_of_lt hin

/-- An instruction that ends a running state in a fault leaves a legal record. -/
theorem Ending.record {s t : State} {i : Instr} {r : FaultRecord} (h : Ending s i t) (hrun : s.run = .running)
    (ht : t.run = .faulted r) : r.legal s.cfg ∧ r.cause ≠ .resourceExhaustion := by
  obtain ⟨hfault, -⟩ := h.of_faulted hrun ht
  obtain ⟨hcause, -, hout, hword⟩ := hfault.legal
  exact ⟨FaultRecord.legal_of_index hcause hout hword, hcause⟩

/-- The run state and the log of a running state change together. -/
theorem Ending.keeps_log {s t : State} {i : Instr} (h : Ending s i t) (hrun : s.run = .running)
    (hlog : logAgrees s.run s.diag) : logAgrees t.run t.diag := by
  rw [hrun] at hlog
  cases h with
  | quiet hkeep hdiag => rwa [hkeep, hrun, hdiag]
  | warned kind value hkeep hdiag => rw [hkeep, hrun, hdiag]; exact logAgrees_warn hlog kind value
  | halted _ _ _ _ _ heq => rw [heq]; exact hlog
  | faulted r _ heq => rw [heq]; exact logAgrees_raise hlog r.cause r.value

theorem MidCycle.exec {s t : State} {i : Instr} (h : MidCycle s) (hrun : s.run = .running) (he : Effect s i t) :
    MidCycle t where
  config := by rw [he.cfg_eq]; exact h.config
  memForm := (he.keeps_memory h.memForm h.memRange).1
  memRange := by rw [he.cfg_eq]; exact (he.keeps_memory h.memForm h.memRange).2
  pcRange := by rw [he.cfg_eq]; exact he.keeps_pcRange h.pcRange
  cycles := by rw [he.cfg_eq, he.cycles_eq]; exact h.cycles
  record r hr := by rw [he.cfg_eq]; exact he.ending.record hrun hr
  log := he.ending.keeps_log hrun h.log

/-! ### The invariant at the end of an iteration -/

theorem MidCycle.inv_countCycle {u : State} (h : MidCycle u) (hwithin : ¬(u.run = .running ∧ u.cfg.cycleLimit < u.cycles + 1)) :
    Inv u.countCycle where
  config := h.config
  memForm := h.memForm
  memRange := h.memRange
  pcRange := h.pcRange
  cyclesMax := Nat.succ_le_succ h.cycles
  cyclesRunning hrun := Nat.le_of_not_lt fun hover => hwithin ⟨hrun, hover⟩
  record r hr := (h.record r hr).1
  exhausted r hr hcause := absurd hcause (h.record r hr).2
  log := h.log

/-- The ceiling fault comes to a counter within the ceiling, so it comes exactly one cycle above it. -/
theorem MidCycle.inv_exceeded {u : State} (h : MidCycle u) (hrun : u.run = .running)
    (hover : u.cfg.cycleLimit < u.cycles + 1) : Inv (u.countCycle.raise .resourceExhaustion u.cfg.cycleLimit) where
  config := h.config
  memForm := h.memForm
  memRange := h.memRange
  pcRange := h.pcRange
  cyclesMax := Nat.succ_le_succ h.cycles
  cyclesRunning hgoes := by cases hgoes
  record r hr := by cases hr; rfl
  exhausted _ _ _ := Nat.le_antisymm (Nat.succ_le_succ h.cycles) hover
  log := logAgrees_raise (hrun ▸ h.log) _ _

theorem MidCycle.inv_endCycle {u : State} (h : MidCycle u) : Inv u.endCycle := by
  obtain ⟨hwithin, hcount⟩ | ⟨hrun, hover, hceiling⟩ := u.endCycle_cases
  · rw [hcount]
    exact h.inv_countCycle hwithin
  · rw [hceiling]
    exact h.inv_exceeded hrun hover

theorem Inv.failPcCheck {s : State} (h : Inv s) (hrun : s.run = .running) (hpc : s.cfg.memorySize ≤ s.pc.toNat) :
    Inv s.failPcCheck where
  config := h.config
  memForm := h.memForm
  memRange := h.memRange
  pcRange := h.pcRange
  cyclesMax := h.cyclesMax
  cyclesRunning hgoes := by cases hgoes
  record r hr := by cases hr; exact FaultRecord.legal_of_index (by simp) hpc s.pc.isLt
  exhausted r hr hcause := by cases hr; cases hcause
  log := logAgrees_raise (hrun ▸ h.log) _ _

/-- Settles O44, by the cases of a step: a cycle is the increment, execute and the end of the cycle. -/
theorem stepKeepsInvariant : Obligations.StepKeepsInvariant := by
  intro s t h hstep
  obtain ⟨-, rfl⟩ | ⟨hrun, hpc, rfl⟩ | ⟨hrun, hpc, u, -, heffect, rfl⟩ := step_cases hstep
  · exact h
  · exact h.failPcCheck hrun hpc
  · exact ((h.midCycle_advancePc hrun hpc).exec hrun heffect).inv_endCycle

/-! ### Reset (70_reset_and_hazards.md R200) -/

theorem State.resetFrom_run (cfg : Config) (image : List Word) (hasWords : Bool) :
    (State.resetFrom cfg image hasWords).run = if hasWords then .running else .halted := rfl

theorem State.resetFrom_run_ne_faulted (cfg : Config) (image : List Word) (hasWords : Bool) (r : FaultRecord) :
    (State.resetFrom cfg image hasWords).run ≠ .faulted r := by
  rw [State.resetFrom_run]
  cases hasWords <;> simp

theorem logAgrees_nil {run : RunState} (h : ∀ r, run ≠ .faulted r) : logAgrees run [] := by
  cases run with
  | faulted r => exact absurd rfl (h r)
  | _ => exact fun e he => absurd he List.not_mem_nil

theorem inv_resetFrom {cfg : Config} (hvalid : cfg.Valid) (image : List Word) (hasWords : Bool) :
    Inv (State.resetFrom cfg image hasWords) where
  config := hvalid
  memForm := Memory.wf_ofImage cfg.memorySize image
  memRange := Memory.within_ofImage cfg.memorySize image
  pcRange := by
    have hpc : (State.resetFrom cfg image hasWords).pc.toNat = cfg.resetPc := pcAtReset.1 cfg image hasWords hvalid
    obtain ⟨-, -, hlt⟩ := hvalid
    rw [hpc]
    exact Nat.le_of_lt hlt
  cyclesMax := Nat.zero_le _
  cyclesRunning _ := Nat.zero_le _
  record r hr := absurd hr (State.resetFrom_run_ne_faulted cfg image hasWords r)
  exhausted r hr _ := absurd hr (State.resetFrom_run_ne_faulted cfg image hasWords r)
  log := logAgrees_nil (State.resetFrom_run_ne_faulted cfg image hasWords)

/-- `State.reset` is the reset of the standard configuration with HAS_WORDS = 1 and an image that lists no cell
(notes/assumptions/3.md). -/
theorem State.reset_eq_resetFrom : State.reset = State.resetFrom Config.standard [] true := rfl

/-- Settles O45: the image's memory is canonical and inside the size, and nothing has been counted or logged. -/
theorem resetHasInvariant : Obligations.ResetHasInvariant :=
  ⟨State.reset_eq_resetFrom ▸ inv_resetFrom (by decide) [] true, fun _ image hasWords hvalid =>
    inv_resetFrom hvalid image hasWords⟩

end Sys2Proof.Machine
end

section
/-! Whole runs (40_engine_cycle.md R93): every run ends by the ceiling, and with the standard configuration two causes of fault
never occur. -/

namespace Sys2Proof.Machine

/-! ### Runs -/

theorem core_run_answers (n : Nat) (s : State) : ∃ t, Sys2Proof.core.run n s = .next t := by
  induction n generalizing s with
  | zero => exact ⟨s, core_run_zero s⟩
  | succ n ih =>
    obtain ⟨u, hstep⟩ := stepAlwaysAnswers s
    obtain ⟨t, hrun⟩ := ih u
    exact ⟨t, (core_run_succ n hstep).trans hrun⟩

/-- A property that every step keeps holds of what a run answers. -/
theorem core_run_of_kept {P : State → Prop} (hstep : ∀ s t, P s → step s = .next t → P t) (n : Nat) {s : State} (hs : P s) :
    ∃ t, Sys2Proof.core.run n s = .next t ∧ P t := by
  obtain ⟨t, hrun⟩ := core_run_answers n s
  exact ⟨t, hrun, core_run_keeps hstep n s t hs hrun⟩

/-! ### Every run ends (R93) -/

/-- A cycle that leaves the run Running has counted within the ceiling (R87). -/
theorem State.endCycle_cycles_le {u : State} (hrun : u.endCycle.run = .running) : u.cycles + 1 ≤ u.cfg.cycleLimit := by
  obtain ⟨hwithin, hcount⟩ | ⟨-, -, hceiling⟩ := u.endCycle_cases
  · rw [hcount] at hrun
    exact Nat.le_of_not_lt fun hover => hwithin ⟨hrun, hover⟩
  · rw [hceiling] at hrun
    cases hrun

theorem step_cfg {s t : State} (hstep : step s = .next t) : t.cfg = s.cfg := by
  obtain ⟨-, rfl⟩ | ⟨-, -, rfl⟩ | ⟨-, -, u, -, heffect, rfl⟩ := step_cases hstep
  · rfl
  · rfl
  · rw [State.endCycle_cfg, heffect.cfg_eq, State.advancePc_cfg]

theorem step_cycles_le {s t : State} (hstep : step s = .next t) : t.cycles ≤ s.cycles + 1 := by
  obtain ⟨-, rfl⟩ | ⟨-, -, rfl⟩ | ⟨-, -, u, -, heffect, rfl⟩ := step_cases hstep
  · exact Nat.le_succ _
  · exact Nat.le_succ _
  · rw [State.endCycle_cycles, heffect.cycles_eq, State.advancePc_cycles]

/-- A step that leaves the run Running was a cycle, and its count is within the ceiling. -/
theorem step_running {s t : State} (hstep : step s = .next t) (ht : t.run = .running) :
    t.cycles = s.cycles + 1 ∧ t.cycles ≤ s.cfg.cycleLimit := by
  obtain ⟨hterminal, rfl⟩ | ⟨-, -, rfl⟩ | ⟨-, -, u, -, heffect, rfl⟩ := step_cases hstep
  · exact absurd ht hterminal
  · cases ht
  · have hcount : u.endCycle.cycles = s.cycles + 1 := by
      rw [State.endCycle_cycles, heffect.cycles_eq, State.advancePc_cycles]
    have hlimit : u.endCycle.cycles ≤ u.cfg.cycleLimit := u.endCycle_cycles ▸ State.endCycle_cycles_le ht
    rw [heffect.cfg_eq] at hlimit
    exact ⟨hcount, hlimit⟩

/-- Settles O46, by induction on the iterations: one that leaves the run Running has counted one of the cycles left. -/
theorem everyRunEndsByTheCeiling : Obligations.EveryRunEndsByTheCeiling := by
  intro s n hpos hleft
  induction n generalizing s with
  | zero => exact absurd hpos (Nat.lt_irrefl 0)
  | succ n ih =>
    obtain ⟨u, hstep⟩ := stepAlwaysAnswers s
    have hcycles : u.cycles ≤ s.cycles + 1 := step_cycles_le hstep
    by_cases hrun : u.run = .running
    · obtain ⟨hcount, hlimit⟩ := step_running hstep hrun
      have hcfg : u.cfg = s.cfg := step_cfg hstep
      obtain ⟨t, hanswer, hterminal, hbound⟩ := ih u (by omega) (by rw [hcfg]; omega)
      rw [hcfg] at hbound
      exact ⟨t, (core_run_succ n hstep).trans hanswer, hterminal, by omega⟩
    · have hterminal : u.run.terminal = true := u.run.terminal_iff.2 hrun
      exact ⟨u, (core_run_succ n hstep).trans (terminalStatesAreFrozen u n hterminal), hterminal, by omega⟩

/-! ### Two causes that never occur (R93) -/

/-- Within the standard ceiling the pc stays far below the standard memory's size: 1023 + 3000 < 32768. -/
theorem InvStandard.pc_inRange {s : State} (h : InvStandard s) (hrun : s.run = .running) : s.pc.toNat < s.cfg.memorySize := by
  have hpc := h.pcBound
  have hcycles := h.ceiling hrun
  rw [h.config] at hcycles ⊢
  simp only [Config.standard] at hcycles ⊢
  omega

/-- A target that was decoded is 10 bits wide (30_encoding.md R67). -/
theorem jumpTarget_lt {w imm : Word} {reg : RegIdx} {p : Prop}
    (hi : decode w = .jump reg imm ∨ (decode w = .jumpCond reg imm ∧ p)) : imm.toNat < 1024 := by
  have hwf := decode_wellFormed w
  obtain hjump | ⟨hjump, -⟩ := hi <;> rw [hjump] at hwf <;> exact (immediateFits_iff imm).1 hwf

/-- The cycle moves the pc up by one, as the counter, or to a target of 10 bits. -/
theorem InvStandard.pc_cycle {s u : State} (h : InvStandard s) (hrun : s.run = .running)
    (heffect : Effect s.advancePc s.currentInstr u) : u.pc.toNat ≤ 1023 + (s.cycles + 1) := by
  obtain hkept | ⟨reg, imm, hi, hjump, -⟩ := heffect.pc_cases
  · have hpc := h.pcBound
    have hvalid : s.cfg.Valid := by rw [h.config]; decide
    rw [hkept, State.advancePc_pc_toNat hvalid (h.pc_inRange hrun)]
    omega
  · have htarget : imm.toNat < 1024 := jumpTarget_lt hi
    rw [hjump]
    omega

theorem InvStandard.step_pcBound {s t : State} (h : InvStandard s) (hstep : step s = .next t) :
    t.pc.toNat ≤ 1023 + t.cycles := by
  obtain ⟨-, rfl⟩ | ⟨-, -, rfl⟩ | ⟨hrun, -, u, -, heffect, rfl⟩ := step_cases hstep
  · exact h.pcBound
  · exact h.pcBound
  · rw [State.endCycle_pc, State.endCycle_cycles, heffect.cycles_eq]
    exact h.pc_cycle hrun heffect

/-- An AddressFault of a step is one of `load` or `store`: the pc and a decoded target are below the standard memory's size. -/
theorem InvStandard.step_cause {s t : State} {r : FaultRecord} (h : InvStandard s) (hrun : s.run = .running)
    (hstep : step s = .next t) (ht : t.run = .faulted r) :
    r.cause ≠ .pcOutOfRange ∧ r.cause ≠ .jumpTargetOutOfRange := by
  by_cases hceiling : r.cause = .resourceExhaustion
  · simp [hceiling]
  · obtain ⟨-, hpc, -⟩ | ⟨hfault, -⟩ := step_addressFault hrun hstep ht hceiling
    · exact absurd (h.pc_inRange hrun) (Nat.not_lt.2 hpc)
    · obtain ⟨-, hnotPc, hout, -⟩ := hfault.legal
      refine ⟨hnotPc, fun hcause => ?_⟩
      obtain ⟨reg, imm, hvalue, hi⟩ := hfault.of_jump hcause
      have htarget : imm.toNat < 1024 := jumpTarget_lt hi
      have hsize : s.advancePc.cfg.memorySize = 32768 := by rw [State.advancePc_cfg, h.config]; rfl
      omega

theorem InvStandard.step_noFault {s t : State} (h : InvStandard s) (hstep : step s = .next t) (v : Nat) :
    t.run ≠ .faulted ⟨.pcOutOfRange, v⟩ ∧ t.run ≠ .faulted ⟨.jumpTargetOutOfRange, v⟩ := by
  by_cases hrun : s.run = .running
  · exact ⟨fun ht => (h.step_cause hrun hstep ht).1 rfl, fun ht => (h.step_cause hrun hstep ht).2 rfl⟩
  · rw [step_of_terminal (s.run.terminal_iff.2 hrun)] at hstep
    cases hstep
    exact ⟨h.noPcFault v, h.noJumpFault v⟩

/-- Settles O47: the pc and the counter grow together, so the pc stays in range up to the ceiling. -/
theorem standardStepKeepsPcBound : Obligations.StandardStepKeepsPcBound := fun _ _ h hstep =>
  { config := (step_cfg hstep).trans h.config
    pcBound := h.step_pcBound hstep
    ceiling := fun ht => by rw [step_cfg hstep]; exact (step_running hstep ht).2
    noPcFault := fun v => (h.step_noFault hstep v).1
    noJumpFault := fun v => (h.step_noFault hstep v).2 }

theorem invStandard_resetFrom (image : List Word) (hasWords : Bool) :
    InvStandard (State.resetFrom Config.standard image hasWords) where
  config := rfl
  pcBound := show (1#16).toNat ≤ 1023 by decide
  ceiling _ := Nat.zero_le _
  noPcFault _ := State.resetFrom_run_ne_faulted _ image hasWords _
  noJumpFault _ := State.resetFrom_run_ne_faulted _ image hasWords _

/-- Settles O48: the bound of O47 holds at reset and along every run. -/
theorem twoCausesNeverOccur : Obligations.TwoCausesNeverOccur := by
  intro image hasWords n
  obtain ⟨t, hrun, ht⟩ := core_run_of_kept standardStepKeepsPcBound n (invStandard_resetFrom image hasWords)
  exact ⟨t, hrun, fun v => ⟨ht.noPcFault v, ht.noJumpFault v⟩⟩

end Sys2Proof.Machine
end

section
/-! Reset and the observer (10_state.md R25, 60_exceptions.md R181, 70_reset_and_hazards.md R200 to R203). -/

namespace Sys2Proof.Machine

/-! ### Registers at reset (10_state.md R25) -/

theorem State.readReg_resetFrom (cfg : Config) (image : List Word) (hasWords : Bool) (r : RegIdx) :
    (State.resetFrom cfg image hasWords).readReg r = 0#16 := by
  simp [State.readReg, State.resetFrom, Vector.get_eq_getElem]

/-- A step keeps a register that the instruction it runs, if it runs one, does not name as its destination. -/
theorem step_readReg {s t : State} {r : RegIdx} (hstep : step s = .next t)
    (hr : s.run = .running → s.pc.toNat < s.cfg.memorySize → destination s.currentInstr ≠ some r) :
    t.readReg r = s.readReg r := by
  obtain ⟨-, rfl⟩ | ⟨-, -, rfl⟩ | ⟨hrun, hpc, u, -, heffect, rfl⟩ := step_cases hstep
  · rfl
  · exact s.readReg_raise _ _ r
  · rw [State.readReg_endCycle, heffect.readReg_eq (hr hrun hpc), State.readReg_advancePc]

/-- A run keeps a register that no instruction it runs names as its destination. -/
theorem core_run_readReg {r : RegIdx} (n : Nat) (s : State)
    (hr : ∀ (k : Nat) (u : State), k < n → Sys2Proof.core.run k s = .next u → u.run = .running →
      u.pc.toNat < u.cfg.memorySize → destination u.currentInstr ≠ some r) :
    ∃ t, Sys2Proof.core.run n s = .next t ∧ t.readReg r = s.readReg r := by
  induction n generalizing s with
  | zero => exact ⟨s, core_run_zero s, rfl⟩
  | succ n ih =>
    obtain ⟨u, hstep⟩ := stepAlwaysAnswers s
    have hfirst : u.readReg r = s.readReg r := step_readReg hstep (hr 0 s (Nat.succ_pos n) (core_run_zero s))
    obtain ⟨t, hrun, hrest⟩ := ih u fun k v hk hv =>
      hr (k + 1) v (Nat.succ_lt_succ hk) ((core_run_succ k hstep).trans hv)
    exact ⟨t, (core_run_succ n hstep).trans hrun, hrest.trans hfirst⟩

/-- Settles O49: a register is 0 at reset, and a run that never names it keeps it. -/
theorem registersZeroAtReset : Obligations.RegistersZeroAtReset := by
  intro cfg image hasWords r
  have hzero : (State.resetFrom cfg image hasWords).readReg r = 0#16 := State.readReg_resetFrom cfg image hasWords r
  refine ⟨hzero, ?_, fun n hr => ?_⟩
  · rw [State.reset_eq_resetFrom]
    exact State.readReg_resetFrom Config.standard [] true r
  · obtain ⟨t, hrun, hkept⟩ := core_run_readReg n (State.resetFrom cfg image hasWords) hr
    exact ⟨t, hrun, hkept.trans hzero⟩

/-! ### The memory at reset (70_reset_and_hazards.md R200 to R202) -/

/-- An image's memory reads as the image from its first index on, and blank below it and past its end. -/
theorem Memory.read_ofImageFrom (first : Nat) (image : List Word) (k : Nat) :
    (Memory.ofImageFrom first image).read k = if first ≤ k then image.getD (k - first) 0#16 else 0#16 := by
  induction image generalizing first with
  | nil => simp [Memory.ofImageFrom]
  | cons w ws ih =>
    have hblank : (Memory.ofImageFrom (first + 1) ws).read first = 0#16 :=
      Memory.read_below (Memory.wfFrom_ofImageFrom (first + 1) ws) (Nat.lt_succ_self first)
    rw [Memory.ofImageFrom, Memory.read_putCell _ first k w hblank, ih]
    obtain hlt | rfl | hgt := Nat.lt_trichotomy k first
    · rw [if_neg (by omega), if_neg (by omega), if_neg (by omega)]
    · simp
    · have hindex : k - first = k - (first + 1) + 1 := by omega
      rw [if_neg (by omega), if_pos (by omega), if_pos (by omega), hindex, List.getD_cons_succ]

theorem Memory.read_ofImage (size : Nat) (image : List Word) (k : Nat) :
    (Memory.ofImage size image).read k = if k < size then image.getD k 0#16 else 0#16 := by
  rw [Memory.ofImage, Memory.read_ofImageFrom, if_pos (Nat.zero_le k), Nat.sub_zero, List.getD_eq_getElem?_getD,
    List.getD_eq_getElem?_getD, List.getElem?_take]
  split <;> rfl

/-- Settles O51: the memory is the image cut to the memory's size, and the other fields are as given. -/
theorem resetHoldsImage : Obligations.ResetHoldsImage := fun cfg image hasWords =>
  ⟨Memory.read_ofImage cfg.memorySize image, State.resetFrom_run cfg image hasWords, rfl, rfl⟩

/-! ### The observer (60_exceptions.md R181) -/

theorem observations_succ {s t : State} (n : Nat) (hstep : step s = .next t) :
    observations (n + 1) s = s.observe.toList ++ observations n t := by
  rw [observations, hstep]

theorem State.observe_of_running {s : State} (h : s.run = .running) :
    s.observe = some { pc := s.pc, pcByte := 2 * s.pc.toNat, regs := s.regs } := by
  rw [State.observe, h]

theorem State.observe_of_terminal {s : State} (h : s.run.terminal = true) : s.observe = none := by
  unfold State.observe
  split
  · next hrun => rw [hrun] at h; cases h
  · rfl
  · rfl

theorem observations_of_terminal {s : State} (h : s.run.terminal = true) (n : Nat) : observations n s = [] := by
  induction n with
  | zero => rfl
  | succ n ih => rw [observations_succ n (step_of_terminal h), State.observe_of_terminal h, ih]; rfl

/-- Settles O52: a running state is observed once before its step, a terminal one never, and a reset without words is
Halted. -/
theorem observerSnapshots : Obligations.ObserverSnapshots := by
  refine ⟨fun s hrun n => ?running, fun s n h => observations_of_terminal h n, fun cfg image n => ?noWords⟩
  case running =>
    obtain ⟨t, hstep⟩ := stepAlwaysAnswers s
    refine ⟨t, _, hstep, rfl, ?_⟩
    rw [observations_succ n hstep, State.observe_of_running hrun]
    rfl
  case noWords =>
    have hhalted : (State.resetFrom cfg image false).run.terminal = true := rfl
    exact observations_of_terminal hhalted n

end Sys2Proof.Machine
end
